-- ==== Sys2Proof/Word.lean ====
section
/-! DEFINITION. The words of the EB418 (0.6 Units, chapter 12) and the names of its two wheels and five
valve channels (0.7, R1), with the records that hold one thing per wheel or per channel. -/

namespace Sys2Proof

/-- A byte of a frame (R180). -/
abbrev Byte := BitVec 8

/-- A word: 16 bits (0.6). -/
abbrev Word := BitVec 16

/-- Wheels are L (left) and R (right) (0.7). -/
inductive Wheel where
  | left
  | right
deriving DecidableEq, Repr

/-- The five valve channels of R1, in channel order 0 to 4. -/
inductive Chan where
  /-- channel 0, the backup block -/
  | bk
  /-- channel 1, left inlet -/
  | li
  /-- channel 2, left exhaust -/
  | lx
  /-- channel 3, right inlet -/
  | ri
  /-- channel 4, right exhaust -/
  | rx
deriving DecidableEq, Repr

/-- One thing for each wheel. -/
structure PerWheel (α : Type) where
  left : α
  right : α
deriving DecidableEq, Repr

namespace PerWheel
variable {α : Type}

def get (p : PerWheel α) : Wheel → α
  | .left => p.left
  | .right => p.right

def set (p : PerWheel α) (w : Wheel) (x : α) : PerWheel α :=
  match w with
  | .left => { p with left := x }
  | .right => { p with right := x }

@[simp] theorem get_set_self (p : PerWheel α) (w : Wheel) (x : α) : (p.set w x).get w = x := by
  cases w <;> rfl

theorem get_set_of_ne (p : PerWheel α) {w v : Wheel} (x : α) (h : v ≠ w) :
    (p.set w x).get v = p.get v := by
  cases w <;> cases v <;> first | rfl | exact absurd rfl h

end PerWheel

/-- One thing for each valve channel. -/
structure PerChan (α : Type) where
  bk : α
  li : α
  lx : α
  ri : α
  rx : α
deriving DecidableEq, Repr

namespace PerChan
variable {α : Type}

def get (p : PerChan α) : Chan → α
  | .bk => p.bk
  | .li => p.li
  | .lx => p.lx
  | .ri => p.ri
  | .rx => p.rx

def set (p : PerChan α) (c : Chan) (x : α) : PerChan α :=
  match c with
  | .bk => { p with bk := x }
  | .li => { p with li := x }
  | .lx => { p with lx := x }
  | .ri => { p with ri := x }
  | .rx => { p with rx := x }

/-- The same change to all five, each with its channel. -/
def mapIdx {β : Type} (f : Chan → α → β) (p : PerChan α) : PerChan β :=
  { bk := f .bk p.bk, li := f .li p.li, lx := f .lx p.lx, ri := f .ri p.ri, rx := f .rx p.rx }

def map {β : Type} (f : α → β) (p : PerChan α) : PerChan β := p.mapIdx fun _ => f

/-- The same thing in all five places. -/
def all (x : α) : PerChan α := { bk := x, li := x, lx := x, ri := x, rx := x }

@[simp] theorem get_set_self (p : PerChan α) (c : Chan) (x : α) : (p.set c x).get c = x := by
  cases c <;> rfl

theorem get_set_of_ne (p : PerChan α) {c d : Chan} (x : α) (h : d ≠ c) :
    (p.set c x).get d = p.get d := by
  cases c <;> cases d <;> first | rfl | exact absurd rfl h

@[simp] theorem get_mapIdx {β : Type} (f : Chan → α → β) (p : PerChan α) (c : Chan) :
    (p.mapIdx f).get c = f c (p.get c) := by
  cases c <;> rfl

@[simp] theorem get_map {β : Type} (f : α → β) (p : PerChan α) (c : Chan) :
    (p.map f).get c = f (p.get c) := by
  cases c <;> rfl

@[simp] theorem get_all (x : α) (c : Chan) : (all x).get c = x := by
  cases c <;> rfl

end PerChan

end Sys2Proof
end

