-- ==== Sys2Proof/Syntax.lean ====
section
/-! DEFINITION. The commands of the EB418: one constructor per row of spec/opcode_table.json. Each is one
event, whole and indivisible (spec/95_what_each_step_holds.md). -/

namespace Sys2Proof

/-- The events of the unit (spec/opcode_table.json). The takes of the Frame Engine have no operand: they act
on the head of the Receive Queue (R131). -/
inductive Instr where
  /-- DEVICE_RESET (R187): the straps, and the levels of VF0 to VF4, as they stand at the release. -/
  | deviceReset (straps : Nat) (inputs : PerChan Bool)
  /-- FRAME_START (R127). -/
  | frameStart
  /-- FRAME_COMPLETION (R128). -/
  | frameCompletion
  /-- OVERLONG_COMPLETION (R128). -/
  | overlongCompletion
  /-- DAMAGED_FRAME_FORWARD (R132). -/
  | damagedFrameForward
  /-- FORWARD_UNCHANGED (R133). -/
  | forwardUnchanged
  /-- DEMAND_FRAME (R96). -/
  | demandFrame
  /-- TIMER_STEP (R103). -/
  | timerStep
  /-- EXPIRY (R105). -/
  | expiry
  /-- ROLL_FRAME (R115). -/
  | rollFrame
  /-- MANAGE_ADDRESSING (R141). -/
  | manageAddressing
  /-- READ (R150). -/
  | read
  /-- WRITE (R151). -/
  | write
  /-- ARM (R164). -/
  | arm
  /-- DISARM (R89). -/
  | disarm
  /-- ACKNOWLEDGE (R155). -/
  | acknowledge
  /-- REARM_CHANNEL (R156). -/
  | rearmChannel
  /-- EXERCISE (R157). -/
  | exercise
  /-- LOOP_CLEAR (R158). -/
  | loopClear
  /-- CONTROL_PERIOD_EVENT (R49, R50). -/
  | controlPeriodEvent
  /-- TOOTH_EDGE (R19). -/
  | toothEdge (wheel : Wheel)
  /-- SAMPLE (R41): the conversion codes of the left and the right transducer. -/
  | sample (leftCode rightCode : Nat)
  /-- LATCH_SET_EVENT (R69): the channel's fault input asserts. -/
  | latchSetEvent (channel : Chan)
  /-- FAULT_INPUT_DEASSERTED (R70). -/
  | faultInputDeasserted (channel : Chan)
  /-- PAIR_PERIOD_END (R60). -/
  | pairPeriodEnd (pair : Wheel)
  /-- RATIO_ON_TIME_END (R58). -/
  | ratioOnTimeEnd (channel : Chan)
  /-- BK_PERIOD_END (R65). -/
  | bkPeriodEnd
  /-- PULL_IN_STEP (R64). -/
  | pullInStep
  /-- PULL_IN_COMPLETION (R65). -/
  | pullInCompletion
  /-- PULSE_STEP (R72). -/
  | pulseStep
  /-- PULSE_COMPLETION (R72). -/
  | pulseCompletion
  /-- TRANSMITTER_TAKE (R134). -/
  | transmitterTake
  /-- FRAME_SENT (R134). -/
  | frameSent
  /-- CHARACTER_COMPLETION (R126): the data bits, and whether the stop bit was at the mark level. -/
  | characterCompletion (data : Byte) (stopAtMark : Bool)
  /-- RECEIVER_IDLE (R126). -/
  | receiverIdle
  /-- PHASE_COUNT (R58). -/
  | phaseCount
  /-- FAULT_INPUT_ASSERTED_WHILE_LATCHED (R69). -/
  | faultInputAssertedWhileLatched (channel : Chan)
deriving DecidableEq, Repr

end Sys2Proof
end

