-- ==== Sys2Proof/Decode.lean ====
section
/-! DEFINITION. spec/opcode_table.json gives no row any bits (its rows have no pattern and no fields), so no
word spells a command (log 13). -/

namespace Sys2Proof

/-- The command that a word spells by the bits of spec/opcode_table.json: none, since no row has bits. -/
def decodeTableWord (_nbits _w : Nat) : Option Instr := none

end Sys2Proof
end

