-- ==== Sys2Proof/Machine/State.lean ====
section
/-! DEFINITION. The whole state of the unit (0.3, and the state tables of chapters 1 to 11) as plain data, its
value after device reset, and the reasons a step could stop. -/

namespace Sys2Proof.Machine

/-- The axle modes of R77. -/
inductive Mode where
  | pass
  | armed
  | active
  | fallback
  | isolated
deriving DecidableEq, Repr

/-- The service states of R161. -/
inductive Service where
  | empty
  | loaded
  | inService
deriving DecidableEq, Repr

/-- An entry of the Admission Map (9.6): the ceiling is an authority level 0 to 3. -/
structure AdmissionEntry where
  demand : Bool
  manage : Bool
  ceiling : BitVec 2
deriving DecidableEq, Repr

/-- An entry of the Load Table (1.2): the storable values are those of its fields' bits. -/
structure LoadEntry where
  curve : BitVec 4
  factor : BitVec 8
  shift : BitVec 2
deriving DecidableEq, Repr

/-- The contents of the eight tables (chapter 10). -/
structure Tables where
  /-- page 1, the Axle Record -/
  axle : Vector Word 18
  /-- page 2, the Admission Map, by source -/
  map : Vector AdmissionEntry 16
  /-- page 3, the Load Table, by band -/
  load : Vector LoadEntry 8
  /-- page 4, the Slip Table -/
  slip : Vector Word 8
  /-- pages 8 to 11, Curves 0 to 3 -/
  curves : Vector (Vector Word 25) 4
deriving DecidableEq, Repr

/-- The service state of each of the eight tables (R161). -/
structure Services where
  axle : Service
  map : Service
  load : Service
  slip : Service
  curves : Vector Service 4
deriving DecidableEq, Repr

/-- The current demand record (R95): all six fields of one take. -/
structure DemandRecord where
  source : Byte
  sequence : Byte
  demand : Word
  reference : Word
  band : Byte
  retarder : Byte
deriving DecidableEq, Repr

/-- The Freshness Timer (R103). While it is HELD its remaining is the span word of the Axle Record, so only a
RUNNING timer carries one. -/
inductive Timer where
  | held
  | running (remaining : Nat)
deriving DecidableEq, Repr

/-- What the Loop Receiver does with the line (R126 to R128, R139). -/
inductive Receiver where
  /-- from device reset until 20 bit times of idle -/
  | awaitIdle
  /-- idle seen: the next start bit is a frame start -/
  | ready
  /-- a frame is in flight in the last entry of the Receive Queue -/
  | receiving
  /-- characters are ignored until idle, after an overrun or an OVERLONG completion -/
  | ignoring
deriving DecidableEq, Repr

/-- The kind tag of a received frame (R130). -/
inductive KindTag where
  | demand
  | roll
  | manage
  | reply
  | other
deriving DecidableEq, Repr

/-- The end tag of a received frame (R128). -/
inductive EndTag where
  | complete
  | damaged
  | overlong
deriving DecidableEq, Repr

/-- The condition of a Receive Queue entry that is not free (8.2). -/
inductive EntryStatus where
  | inFlight
  | finished (kind : KindTag) (ending : EndTag)
deriving DecidableEq, Repr

/-- An entry of the Receive Queue (R127, R128): the bytes received, and whether a character of it has failed
framing. -/
structure RxEntry where
  bytes : List Byte
  framingFailed : Bool
  status : EntryStatus
deriving DecidableEq, Repr

/-- The sense state of a wheel (3.2). The valid run belongs to FAULT; in the other states it is 0 (R44, R45). -/
inductive Sense where
  | ok
  | suspect1
  | suspect2
  | fault (validRun : Nat)
deriving DecidableEq, Repr

/-- The slip state of a wheel with the pressures that are present in it: the held pressure exactly in HOLD and
DUMP, the ramp pressure exactly in REBUILD (R38). -/
inductive SlipState where
  | free
  | hold (held : Nat)
  | dump (held : Nat)
  | rebuild (ramp : Nat)
deriving DecidableEq, Repr

/-- A Wheel Record (R38). -/
structure WheelRecord where
  slipState : SlipState
  speed : Nat
  slip : Nat
  measured : Nat
  target : Nat
  stateTime : Nat
  cycleCount : Nat
  exhaustionCap : Option Nat
  clipped : Bool
  /-- true is speed FAULT, false is OK (R31) -/
  speedFault : Bool
  zeroRun : Nat
deriving DecidableEq, Repr

/-- The modes of a valve channel (4.1). -/
inductive ChannelMode where
  | off
  | ratio
  | engage
  | pulse
deriving DecidableEq, Repr

/-- MODEL'S OWN (log 4): what a count or a step has made due on a channel and its own event has not yet taken. -/
inductive Due where
  | nothing
  /-- the phase would have reached the period (R58): the period end is due -/
  | periodEnd
  /-- pulse remaining of a pull-in has reached 0 (R65): the completion is due -/
  | pullIn
deriving DecidableEq, Repr

/-- A channel record (4.1), with the level of its drive output VDn (R57). -/
structure Channel where
  mode : ChannelMode
  period : Nat
  activeRatio : Nat
  pendingRatio : Nat
  phase : Nat
  latch : Bool
  pulseRemaining : Nat
  output : Bool
  due : Due
deriving DecidableEq, Repr

/-- The attention kinds, in priority order, highest first (R173). -/
inductive AttentionKind where
  | backupFault
  | valveFault
  | senseFault
  | demandLost
  | peerNotReady
  | speedFault
  | slipExhausted
  | stationClash
  | queueOverrun
  | frameDamaged
  | sourceRefused
deriving DecidableEq, Repr

/-- An entry of the attention list (R173). -/
structure AttentionEntry where
  kind : AttentionKind
  detail : Nat
  repeats : Nat
  firstSeen : Option Byte
deriving DecidableEq, Repr

/-- The reasons a step could stop with a fault. There is none: the manual names no event that stops the unit
(log 17), so no meaning can fault. Safe: nothing is stopped that the unit would do. -/
inductive Fault where
deriving DecidableEq, Repr

/-- The reasons a step could be refused. -/
inductive Refusal where
  /-- Raised by exec alone, for a row of the table without a meaning; no arm is left so. Safe. -/
  | notModelled (mnemonic : String)
deriving DecidableEq, Repr

/-- The state of the unit, and the queue of commands that wait. -/
structure State where
  mode : Mode
  fallbackCount : Nat
  station : Nat
  tables : Tables
  services : Services
  record : Option DemandRecord
  lastSequence : Option Byte
  reentryCount : Nat
  timer : Timer
  peerSlip : Bool
  peerNotReady : Bool
  notReadyRun : Nat
  lastRollSequence : Option Byte
  receiver : Receiver
  receiveQueue : List RxEntry
  transmitQueue : List (List Byte)
  sending : Option (List Byte)
  teeth : PerWheel Nat
  sense : PerWheel Sense
  latestValid : PerWheel (Option Nat)
  wheels : PerWheel WheelRecord
  engaged : Bool
  peerCap : Option Nat
  channels : PerChan Channel
  faultInputs : PerChan Bool
  attention : List AttentionEntry
  pending : List Instr
deriving DecidableEq, Repr

/-- Device reset makes every word of every table 0 (R161): no entry admits, every band is curve 0, factor 0,
shift code 0, and every breakpoint count is 0 (R15, R153). -/
def Tables.reset : Tables :=
  { axle := Vector.replicate 18 0
    map := Vector.replicate 16 { demand := false, manage := false, ceiling := 0 }
    load := Vector.replicate 8 { curve := 0, factor := 0, shift := 0 }
    slip := Vector.replicate 8 0
    curves := Vector.replicate 4 (Vector.replicate 25 0) }

/-- Device reset makes every table EMPTY (R161). -/
def Services.reset : Services :=
  { axle := .empty, map := .empty, load := .empty, slip := .empty, curves := Vector.replicate 4 .empty }

/-- The Wheel Record after device reset (R39; measured pressure R55). -/
def WheelRecord.reset : WheelRecord :=
  { slipState := .free, speed := 0, slip := 0, measured := 0, target := 0, stateTime := 0, cycleCount := 0
    exhaustionCap := none, clipped := false, speedFault := false, zeroRun := 0 }

/-- The record of a channel that is OFF with its latch clear (R74). -/
def Channel.reset : Channel :=
  { mode := .off, period := 0, activeRatio := 0, pendingRatio := 0, phase := 0, latch := false
    pulseRemaining := 0, output := false, due := .nothing }

/-- The unit right after device reset with no fault input asserted, strapped to station 1 (log 5: the station
and the inputs are the environment's; DESIGN CHOICE, unsafe). Every other value is the one the chapters give. -/
def State.reset : State :=
  { mode := .pass
    fallbackCount := 0
    station := 1
    tables := Tables.reset
    services := Services.reset
    record := none
    lastSequence := none
    reentryCount := 0
    timer := .held
    peerSlip := false
    peerNotReady := false
    notReadyRun := 0
    lastRollSequence := none
    receiver := .awaitIdle
    receiveQueue := []
    transmitQueue := []
    sending := none
    teeth := { left := 0, right := 0 }
    sense := { left := .ok, right := .ok }
    latestValid := { left := none, right := none }
    wheels := { left := WheelRecord.reset, right := WheelRecord.reset }
    engaged := false
    peerCap := none
    channels := PerChan.all Channel.reset
    faultInputs := PerChan.all false
    attention := []
    pending := [] }

end Sys2Proof.Machine
end

