-- ==== Sys2Proof/Machine/Flags.lean ====
section
/-! DEFINITION. The attention list (chapter 11): the flags that every block raises, the conditions behind them,
and their codes (R184). -/

namespace Sys2Proof.Machine

/-- Attention kind codes equal their priority (R184). Code 0 is no kind. -/
def AttentionKind.code : AttentionKind → Nat
  | .backupFault => 1
  | .valveFault => 2
  | .senseFault => 3
  | .demandLost => 4
  | .peerNotReady => 5
  | .speedFault => 6
  | .slipExhausted => 7
  | .stationClash => 8
  | .queueOverrun => 9
  | .frameDamaged => 10
  | .sourceRefused => 11

/-- The kind of a code, if it is one of the eleven (R148, R184). -/
def AttentionKind.ofCode : Nat → Option AttentionKind
  | 1 => some .backupFault
  | 2 => some .valveFault
  | 3 => some .senseFault
  | 4 => some .demandLost
  | 5 => some .peerNotReady
  | 6 => some .speedFault
  | 7 => some .slipExhausted
  | 8 => some .stationClash
  | 9 => some .queueOverrun
  | 10 => some .frameDamaged
  | 11 => some .sourceRefused
  | _ => none

/-- A further raise of a kind that has an entry (R174): the count stops at 255, the detail is the latest. -/
def AttentionEntry.again (e : AttentionEntry) (detail : Nat) : AttentionEntry :=
  { e with detail := detail, repeats := if e.repeats < 255 then e.repeats + 1 else e.repeats }

/-- A raise into a list kept in priority order (R174). -/
def raiseIn (k : AttentionKind) (detail : Nat) (seen : Option Byte) : List AttentionEntry → List AttentionEntry
  | [] => [{ kind := k, detail := detail, repeats := 1, firstSeen := seen }]
  | e :: rest =>
    if e.kind = k then e.again detail :: rest
    else if e.kind.code < k.code then e :: raiseIn k detail seen rest
    else { kind := k, detail := detail, repeats := 1, firstSeen := seen } :: e :: rest

/-- A raise takes the last roll sequence of its moment as first-seen roll sequence (R175). -/
def State.raise (s : State) (k : AttentionKind) (detail : Nat) : State :=
  { s with attention := raiseIn k detail s.lastRollSequence s.attention }

/-- The entry of a kind, if the list holds one (R173). -/
def entryOf (k : AttentionKind) (l : List AttentionEntry) : Option AttentionEntry :=
  l.find? fun e => e.kind = k

/-- The list without the entry of a kind; those after it move up (R177). -/
def removeKind (k : AttentionKind) (l : List AttentionEntry) : List AttentionEntry :=
  l.filter fun e => e.kind ≠ k

/-- FAULT is a sense fault; OK and SUSPECT are sense state OK (R46). -/
def Sense.isFault : Sense → Bool
  | .fault _ => true
  | .ok | .suspect1 | .suspect2 => false

/-- At least one wheel is in sense FAULT (R46, R177). -/
def State.anySenseFault (s : State) : Bool := s.sense.left.isFault || s.sense.right.isFault

/-- A fault latch is set on at least one wheel channel (R177). -/
def State.anyWheelLatch (s : State) : Bool :=
  s.channels.li.latch || s.channels.lx.latch || s.channels.ri.latch || s.channels.rx.latch

/-- A fault latch is set on at least one of the five channels (R80, R87, R118). -/
def State.anyLatch (s : State) : Bool := s.channels.bk.latch || s.anyWheelLatch

/-- The pending cause of a kind holds (R177). -/
def State.causeHolds (s : State) : AttentionKind → Bool
  | .backupFault => s.channels.bk.latch
  | .valveFault => s.anyWheelLatch
  | .senseFault => s.anySenseFault
  | .peerNotReady => 3 ≤ s.notReadyRun
  | .speedFault => s.wheels.left.speedFault || s.wheels.right.speedFault
  | .demandLost | .slipExhausted | .stationClash | .queueOverrun | .frameDamaged | .sourceRefused => false

/-- The kind of the first entry, or code 0 where the list is empty (R120, R179). -/
def topKindCode : List AttentionEntry → Nat
  | [] => 0
  | e :: _ => e.kind.code

end Sys2Proof.Machine
end

