-- ==== Sys2Proof/Machine/Operands.lean ====
section
/-! DEFINITION. The formats of chapter 12: bytes and words, the check code (R129), frames (R180, R181), the
MANAGE request and its operands (R182), and the codes (R184). -/

namespace Sys2Proof.Machine

/-! ### Bytes and words -/

/-- The word of two bytes, the most significant first (0.6). -/
def wordOf (hi lo : Byte) : Word := hi ++ lo

/-- The most significant byte of a word, which travels first (0.6). -/
def highByte (w : Word) : Byte := w.extractLsb' 8 8

/-- The least significant byte of a word. -/
def lowByte (w : Word) : Byte := w.setWidth 8

/-- Words as they travel: two bytes each, high byte first (R182). -/
def bytesOfWords : List Word → List Byte
  | [] => []
  | w :: rest => highByte w :: lowByte w :: bytesOfWords rest

/-- The data words of a body (R182); a last odd byte is no word. -/
def wordsOfBytes : List Byte → List Word
  | hi :: lo :: rest => wordOf hi lo :: wordsOfBytes rest
  | _ => []

/-- A number as a page word (R185). -/
def numberWord (n : Nat) : Word := BitVec.ofNat 16 n

/-- The number of an optional field, 0 when absent (R38, R186). -/
def optionNumber : Option Nat → Nat
  | some n => n
  | none => 0

/-- A flag in bit `n` of a page word (R185). -/
def flagBit (b : Bool) (n : Nat) : Nat := if b then 2 ^ n else 0

/-! ### 8-position fields (R183) -/

/-- The field that has only position `n` set: bit `n` (R183). -/
def positionBit (n : Nat) : Byte := BitVec.ofNat 8 (2 ^ n)

/-- The field with position `n` written and the other seven as they were (R183). -/
def writePosition (field : Byte) (n : Nat) (value : Bool) : Byte :=
  if value then field ||| positionBit n else field &&& ~~~(positionBit n)

/-- The lowest position set in a field. -/
def lowestPosition (field : Byte) : Option Nat :=
  [0, 1, 2, 3, 4, 5, 6, 7].find? fun n => field.getLsbD n

/-! ### The check code (R129) -/

/-- One bit through the polynomial x^16 + x^12 + x^5 + 1. -/
def crcBit (c : Word) (b : Bool) : Word :=
  if c.msb ^^ b then (c <<< 1) ^^^ 0x1021#16 else c <<< 1

/-- One byte, most significant bit first. -/
def crcByte (c : Word) (x : Byte) : Word :=
  [7, 6, 5, 4, 3, 2, 1, 0].foldl (fun c n => crcBit c (x.getLsbD n)) c

/-- The check code over the bytes from the kind byte to the last body byte: initial value FFFFh, no final
inversion (R129). -/
def checkCode (content : List Byte) : Word := content.foldl crcByte 0xFFFF#16

/-- A frame as it is sent: its bytes, then the check code, high byte first (R129, R134). -/
def withCheckCode (content : List Byte) : List Byte :=
  content ++ [highByte (checkCode content), lowByte (checkCode content)]

/-! ### Frames (R180, R181)

The CONTENT of a frame is its bytes from the kind byte to the last body byte, all but the check code. -/

/-- The header fields and the body of a frame. -/
structure Frame where
  kind : Byte
  flags : Byte
  source : Byte
  bodyLength : Byte
  body : List Byte
deriving DecidableEq, Repr

/-- The content of received bytes: all but the last two, which are the place of the check code. -/
def contentOf (bytes : List Byte) : List Byte := bytes.take (bytes.length - 2)

/-- The fields of a frame's content (R180). -/
def Frame.ofContent (c : List Byte) : Frame :=
  { kind := c.getD 0 0, flags := c.getD 1 0, source := c.getD 2 0, bodyLength := c.getD 3 0, body := c.drop 4 }

/-- The content a frame's fields stand for (R180). -/
def Frame.content (f : Frame) : List Byte := f.kind :: f.flags :: f.source :: f.bodyLength :: f.body

/-- The damaged mark: bit 0 of the flags (R180). -/
def Frame.damaged (f : Frame) : Bool := f.flags.getLsbD 0

/-- The frame with the damaged mark set and flag bits 1 to 7 as received (R181). -/
def Frame.markDamaged (f : Frame) : Frame := { f with flags := f.flags ||| 1 }

/-- The frame with another body, and the body length of the body sent (R181). -/
def Frame.withBody (f : Frame) (body : List Byte) : Frame :=
  { f with bodyLength := BitVec.ofNat 8 body.length, body := body }

/-- Byte `n` of the body, as a number. -/
def Frame.bodyByte (f : Frame) (n : Nat) : Nat := (f.body.getD n 0).toNat

/-- The kind tag of a first byte (R130). -/
def KindTag.ofByte (b : Byte) : KindTag :=
  if b = 1 then .demand
  else if b = 2 then .roll
  else if b = 3 then .manage
  else if b = 4 then .reply
  else .other

/-! ### Codes (R184) -/

def Mode.code : Mode → Nat
  | .pass => 0
  | .armed => 1
  | .active => 2
  | .fallback => 3
  | .isolated => 4

def SlipState.code : SlipState → Nat
  | .free => 0
  | .hold _ => 1
  | .dump _ => 2
  | .rebuild _ => 3

def ChannelMode.code : ChannelMode → Nat
  | .off => 0
  | .ratio => 1
  | .engage => 2
  | .pulse => 3

def Sense.code : Sense → Nat
  | .ok => 0
  | .suspect1 => 1
  | .suspect2 => 2
  | .fault _ => 3

def Service.code : Service → Nat
  | .empty => 0
  | .loaded => 1
  | .inService => 2

/-- The valid run: 0 to 2 in FAULT, 0 otherwise (3.2). -/
def Sense.validRun : Sense → Nat
  | .fault run => run
  | .ok | .suspect1 | .suspect2 => 0

/-- The held pressure, present in HOLD and DUMP (R38). -/
def SlipState.held? : SlipState → Option Nat
  | .hold p => some p
  | .dump p => some p
  | .free | .rebuild _ => none

/-- The ramp pressure, present in REBUILD (R38). -/
def SlipState.ramp? : SlipState → Option Nat
  | .rebuild p => some p
  | .free | .hold _ | .dump _ => none

/-- The number of a channel (R1). -/
def chanNumber : Chan → Nat
  | .bk => 0
  | .li => 1
  | .lx => 2
  | .ri => 3
  | .rx => 4

/-- The channel of a number, 0 to 4 (R1, R148). -/
def chanOfNumber : Nat → Option Chan
  | 0 => some .bk
  | 1 => some .li
  | 2 => some .lx
  | 3 => some .ri
  | 4 => some .rx
  | _ => none

/-! ### MANAGE requests (R182) -/

/-- The eight kinds of request (R145, R184). -/
inductive RequestKind where
  | read
  | write
  | arm
  | disarm
  | acknowledge
  | rearmChannel
  | exercise
  | loopClear
deriving DecidableEq, Repr

/-- Codes 1 to 8; a code of 0 or above 8 is no kind (R184). -/
def RequestKind.ofCode : Nat → Option RequestKind
  | 1 => some .read
  | 2 => some .write
  | 3 => some .arm
  | 4 => some .disarm
  | 5 => some .acknowledge
  | 6 => some .rearmChannel
  | 7 => some .exercise
  | 8 => some .loopClear
  | _ => none

/-- The reply statuses (R149). -/
inductive Status where
  | done
  | partialWrite
  | refusedSource
  | refusedAuthority
  | refusedMode
  | refusedBusy
  | refusedFault
  | badRequest
  | badPage
  | badRange
  | checkFailed
  | stillPresent
deriving DecidableEq, Repr

def Status.code : Status → Nat
  | .done => 0
  | .partialWrite => 1
  | .refusedSource => 2
  | .refusedAuthority => 3
  | .refusedMode => 4
  | .refusedBusy => 5
  | .refusedFault => 6
  | .badRequest => 7
  | .badPage => 8
  | .badRange => 9
  | .checkFailed => 10
  | .stillPresent => 11

/-- The fields of a MANAGE body of 9 bytes or more, with the source of its frame (R182). -/
structure Request where
  source : Nat
  target : Nat
  level : Nat
  kindCode : Nat
  tag : Byte
  page : Nat
  offset : Nat
  count : Nat
  readMode : Nat
  done : Byte
  bodyLength : Nat
  data : List Word
deriving DecidableEq, Repr

/-- The request a MANAGE frame carries (R182). -/
def Request.ofFrame (f : Frame) : Request :=
  { source := f.source.toNat
    target := f.bodyByte 0
    level := f.bodyByte 1
    kindCode := f.bodyByte 2
    tag := f.body.getD 3 0
    page := f.bodyByte 4
    offset := f.bodyByte 5
    count := f.bodyByte 6
    readMode := f.bodyByte 7
    done := f.body.getD 8 0
    bodyLength := f.body.length
    data := wordsOfBytes (f.body.drop 9) }

/-- Data word `k` of a request, as a number. -/
def Request.operand (r : Request) (k : Nat) : Nat := (r.data.getD k 0).toNat

/-- What a reply says (R149); its word count is the number of its words. -/
structure Reply where
  status : Status
  detail : Nat
  words : List Word
deriving DecidableEq, Repr

/-- A reply with no data words and detail 0 (R143). -/
def Reply.plain (status : Status) : Reply := { status := status, detail := 0, words := [] }

/-- The reply body (R149, R182). -/
def Reply.body (reply : Reply) (station : Nat) (tag : Byte) : List Byte :=
  tag :: BitVec.ofNat 8 reply.status.code :: highByte (numberWord reply.detail) ::
    lowByte (numberWord reply.detail) :: BitVec.ofNat 8 station ::
    BitVec.ofNat 8 reply.words.length :: bytesOfWords reply.words

/-- The request's frame with the reply in its place: kind REPLY, source and flags as received (R149). -/
def Frame.reply (f : Frame) (station : Nat) (tag : Byte) (reply : Reply) : Frame :=
  { f with kind := 4 }.withBody (reply.body station tag)

end Sys2Proof.Machine
end

