-- ==== Sys2Proof/Machine/Ops.lean ====
section
/-! DEFINITION. The operations the events share: reading the tables, driving the valve channels, the Mode
Controller's acts and claims (chapter 5), and the Frame Engine's take (R131). -/

namespace Sys2Proof.Machine

/-! ### Fields of the Axle Record and the Slip Table (R166, R167, R185) -/

def Tables.axleRole (t : Tables) : Nat := t.axle[0].toNat
def Tables.ceiling (t : Tables) : Nat := t.axle[1].toNat
def Tables.deadband (t : Tables) : Nat := t.axle[2].toNat
def Tables.applyGain (t : Tables) : Nat := t.axle[3].toNat
def Tables.releaseGain (t : Tables) : Nat := t.axle[4].toNat
def Tables.wheelPeriod (t : Tables) : Nat := t.axle[5].toNat
def Tables.backupPeriod (t : Tables) : Nat := t.axle[6].toNat
def Tables.pullInLength (t : Tables) : Nat := t.axle[7].toNat
def Tables.holdRatio (t : Tables) : Nat := t.axle[8].toNat
def Tables.freshnessSpan (t : Tables) : Nat := t.axle[9].toNat
def Tables.fallbackLimit (t : Tables) : Nat := t.axle[10].toNat
def Tables.wheelFactor (t : Tables) : Wheel → Nat
  | .left => t.axle[11].toNat
  | .right => t.axle[12].toNat
def Tables.peerMask (t : Tables) : Byte := lowByte t.axle[13]
def Tables.readySense (t : Tables) : Byte := lowByte t.axle[14]
def Tables.slipSense (t : Tables) : Byte := lowByte t.axle[15]
def Tables.soloOption (t : Tables) : Nat := t.axle[16].toNat
def Tables.retarderCredit (t : Tables) : Nat := t.axle[17].toNat

def Tables.holdThreshold (t : Tables) : Nat := t.slip[0].toNat
def Tables.dumpThreshold (t : Tables) : Nat := t.slip[1].toNat
def Tables.reapplyThreshold (t : Tables) : Nat := t.slip[2].toNat
def Tables.minimumReference (t : Tables) : Nat := t.slip[3].toNat
def Tables.dumpLimit (t : Tables) : Nat := t.slip[4].toNat
def Tables.holdLimit (t : Tables) : Nat := t.slip[5].toNat
def Tables.rebuildStep (t : Tables) : Nat := t.slip[6].toNat
def Tables.cycleLimit (t : Tables) : Nat := t.slip[7].toNat

/-- The station number is 1 to 6 (R138). -/
def stationValid (station : Nat) : Bool := 1 ≤ station && station ≤ 6

/-- The steps left before expiry: while HELD, the freshness span as the Axle Record holds it (R103). -/
def State.timerRemaining (s : State) : Nat :=
  match s.timer with
  | .held => s.tables.freshnessSpan
  | .running r => r

/-! ### Valve channels (chapter 4) -/

/-- The hold stage of ENGAGE is running: the pull-in has completed (R57, R65). -/
def Channel.inHold (c : Channel) : Bool :=
  c.mode = .engage && c.pulseRemaining = 0 && c.due ≠ .pullIn

/-- The channel runs periods: RATIO, or the ENGAGE hold stage (R58). -/
def Channel.running (c : Channel) : Bool := c.mode = .ratio || c.inHold

/-- Whether the output is on, by the table of R57. -/
def Channel.level (c : Channel) : Bool :=
  match c.mode with
  | .off => false
  | .ratio => !c.latch && c.phase < c.activeRatio
  | .engage => if 0 < c.pulseRemaining then !c.latch else !c.latch && c.phase < c.activeRatio
  | .pulse => !c.latch

/-- The output is re-evaluated at each event that changes the record (R57). -/
def Channel.drive (c : Channel) : Channel := { c with output := c.level }

/-- The record after a forced OFF, a latch-set event or the end of a pulse: all but the fault latch as after
device reset (R67, R69, R72). -/
def Channel.forceOff (c : Channel) : Channel := { Channel.reset with latch := c.latch }

/-- The record of a wheel channel ordered into RATIO (R61). -/
def Channel.orderRatio (c : Channel) (period : Nat) : Channel :=
  { c with mode := .ratio, period := period, activeRatio := 0, pendingRatio := 0, phase := 0
           pulseRemaining := 0, due := .nothing }.drive

/-- The record of BK ordered into ENGAGE (R64). -/
def Channel.orderEngage (c : Channel) (period holdRatio pullIn : Nat) : Channel :=
  { c with mode := .engage, period := period, activeRatio := holdRatio, pendingRatio := holdRatio, phase := 0
           pulseRemaining := pullIn, due := .nothing }.drive

/-- The record of a channel that starts an EXERCISE pulse (R72). -/
def Channel.startPulse (c : Channel) (length : Nat) : Channel :=
  { c with mode := .pulse, period := 0, activeRatio := 0, pendingRatio := 0, phase := 0
           pulseRemaining := length, due := .nothing }.drive

/-- A pending ratio written to a channel in RATIO or in the ENGAGE hold stage is held; in OFF or PULSE it is
not kept (R59). -/
def Channel.writePending (c : Channel) (ratio : Nat) : Channel :=
  if c.running then { c with pendingRatio := ratio } else c

/-- The Mode Controller's forced OFF of all five channels at once (R67). A channel already OFF has this record
already (log 14). -/
def State.forcedOff (s : State) : State := { s with channels := s.channels.map Channel.forceOff }

/-! ### The Mode Controller's acts (chapter 5) -/

/-- The exit values of a Wheel Record; the measured pressure is kept (R39, R55). -/
def WheelRecord.exitValues (w : WheelRecord) : WheelRecord := { WheelRecord.reset with measured := w.measured }

/-- The leaving act (R83): every channel OFF, the Wheel Records at their exit values, the engaged flag clear,
the peer cap absent, the re-entry count 0. -/
def State.leaveActive (s : State) : State :=
  { s.forcedOff with
    wheels := { left := s.wheels.left.exitValues, right := s.wheels.right.exitValues }
    engaged := false
    peerCap := none
    reentryCount := 0 }

/-- A fallback cause in ACTIVE (R82): the count increases by 1; where it now equals the limit the mode becomes
ISOLATED, with the timer HELD (R104), otherwise FALLBACK; the leaving act follows. -/
def State.fallbackCause (s : State) : State :=
  if s.fallbackCount + 1 = s.tables.fallbackLimit then
    { s.leaveActive with mode := .isolated, fallbackCount := s.fallbackCount + 1, timer := .held }
  else
    { s.leaveActive with mode := .fallback, fallbackCount := s.fallbackCount + 1 }

/-- A claim that is a fallback cause in ACTIVE and changes no mode elsewhere: the expiry, a latch set on a wheel
channel, a sense fault (R80, R82, R86, R88, 5.8). -/
def State.faultClaim (s : State) : State :=
  match s.mode with
  | .active => s.fallbackCause
  | .pass | .armed | .fallback | .isolated => s

/-- A latch claim naming BK (R84): ISOLATED from ARMED, ACTIVE and FALLBACK; the count increases only from
ACTIVE; the timer becomes HELD (R104). -/
def State.backupClaim (s : State) : State :=
  match s.mode with
  | .active => { s.leaveActive with mode := .isolated, fallbackCount := s.fallbackCount + 1, timer := .held }
  | .armed | .fallback => { s with mode := .isolated, timer := .held }
  | .pass | .isolated => s

/-- The latch claim of a channel (R69, R78). -/
def State.latchClaim (s : State) : Chan → State
  | .bk => s.backupClaim
  | .li | .lx | .ri | .rx => s.faultClaim

/-- A peer-not-ready claim (R82, R86): a fallback cause in ACTIVE with solo option 0. -/
def State.peerNotReadyClaim (s : State) : State :=
  if s.tables.soloOption = 0 then s.faultClaim else s

/-- Entry to ACTIVE (R81): BK into ENGAGE, the engaged flag cleared, the wheel channels into RATIO. -/
def State.enterActive (s : State) : State :=
  { s with
    mode := .active
    engaged := false
    channels :=
      { bk := s.channels.bk.orderEngage s.tables.backupPeriod s.tables.holdRatio s.tables.pullInLength
        li := s.channels.li.orderRatio s.tables.wheelPeriod
        lx := s.channels.lx.orderRatio s.tables.wheelPeriod
        ri := s.channels.ri.orderRatio s.tables.wheelPeriod
        rx := s.channels.rx.orderRatio s.tables.wheelPeriod } }

/-- Conditions 2 to 4 of R80, which are 3, 4 and 6 of R87: no latch, no sense FAULT, and solo option 1 or no
peer not ready. -/
def State.takeoverClear (s : State) : Bool :=
  !s.anyLatch && !s.anySenseFault && (s.tables.soloOption = 1 || !s.peerNotReady)

/-- The demand-taken claim with the demand as received: takeover in ARMED (R80), re-entry in FALLBACK (R87). -/
def State.demandTakenClaim (s : State) (demand : Nat) : State :=
  match s.mode with
  | .armed => if demand = 0 && s.takeoverClear then s.enterActive else s
  | .fallback =>
    if demand = 0 && 3 ≤ s.reentryCount && s.takeoverClear && s.fallbackCount < s.tables.fallbackLimit then
      s.enterActive
    else s
  | .pass | .active | .isolated => s

/-- IN SERVICE returns to LOADED (R161). -/
def Service.release : Service → Service
  | .inService => .loaded
  | .empty => .empty
  | .loaded => .loaded

/-- Every IN SERVICE table returns to LOADED (R163). -/
def Services.release (v : Services) : Services :=
  { axle := v.axle.release, map := v.map.release, load := v.load.release, slip := v.slip.release
    curves := v.curves.map Service.release }

/-! ### A fault input's assertion (R69) -/

/-- What a latch-set event raises: BACKUP_FAULT with detail 0, or VALVE_FAULT with the channel number (R69). -/
def State.raiseLatch (s : State) (c : Chan) : State :=
  match c with
  | .bk => s.raise .backupFault 0
  | .li | .lx | .ri | .rx => s.raise .valveFault (chanNumber c)

/-- The latch-set event (R69): the channel goes OFF with its latch set, raises its kind and makes its claim. -/
def State.latchSet (s : State) (c : Chan) : State :=
  let off := { s with channels := s.channels.set c { Channel.reset with latch := true } }
  (off.raiseLatch c).latchClaim c

/-- A fault input asserts (R69): it sets a clear latch; with the latch already set there is no latch-set event
(log 11). -/
def State.assertInput (s : State) (c : Chan) : State :=
  let s := { s with faultInputs := s.faultInputs.set c true }
  if (s.channels.get c).latch then s else s.latchSet c

/-! ### The Frame Engine's take (R131 to R133) -/

/-- The rows of the table that are takes of the Frame Engine. -/
inductive TakeRow where
  | damagedFrameForward
  | forwardUnchanged
  | demandFrame
  | rollFrame
  | manageAddressing
  | request (kind : RequestKind)
deriving DecidableEq, Repr

/-- The row of a MANAGE frame at a valid station (R141, R142): a request addressed to this station, or a
broadcast LOOP CLEAR, goes to its kind. A short body, another target, a broadcast of another kind and an unknown
kind are MANAGE_ADDRESSING (log 19). The table of R141 ends at 15: that a target of 16 to 255 is another target, and
its frame forwarded unchanged, is the model's choice (DESIGN CHOICE, log 24). -/
def manageRow (station : Nat) (f : Frame) : TakeRow :=
  if f.body.length < 9 then .manageAddressing
  else if f.bodyByte 0 = station then
    match RequestKind.ofCode (f.bodyByte 2) with
    | some kind => .request kind
    | none => .manageAddressing
  else if f.bodyByte 0 = 15 && f.bodyByte 2 = 8 then .request .loopClear
  else .manageAddressing

/-- The row that takes a finished entry, by its end tag, damaged mark, source and kind tag (R132, R133). -/
def rowOf (station : Nat) (kind : KindTag) (ending : EndTag) (f : Frame) : TakeRow :=
  match ending with
  | .damaged | .overlong => .damagedFrameForward
  | .complete =>
    if f.damaged || 15 < f.source.toNat then .forwardUnchanged
    else
      match kind with
      | .demand => .demandFrame
      | .roll => if stationValid station then .rollFrame else .forwardUnchanged
      | .manage => if stationValid station then manageRow station f else .forwardUnchanged
      | .reply | .other => .forwardUnchanged

/-- The entry the Frame Engine takes now, with the row that takes it: the head of the Receive Queue, complete,
with a free entry in the Transmit Queue (R131). -/
def State.takeable (s : State) : Option (RxEntry × TakeRow) :=
  match s.receiveQueue with
  | [] => none
  | e :: _ =>
    match e.status with
    | .inFlight => none
    | .finished kind ending =>
      if s.transmitQueue.length < 4 then
        some (e, rowOf s.station kind ending (Frame.ofContent (contentOf e.bytes)))
      else none

/-- A take by its row (R131): the entry is handled, the frame as the handling leaves it is placed at the tail of
the Transmit Queue, and the Receive Queue entry is freed. Where the head waits, or is another row's, the event
does not happen (log 2). -/
def State.take (s : State) (row : TakeRow) (handle : RxEntry → State → State × List Byte) : State :=
  match s.takeable with
  | some (e, r) =>
    if r = row then
      let handled := handle e s
      { handled.1 with
        receiveQueue := handled.1.receiveQueue.tail
        transmitQueue := handled.1.transmitQueue ++ [handled.2] }
    else s
  | none => s

end Sys2Proof.Machine
end

