-- ==== Sys2Proof/Machine/Admission.lean ====
section
/-! DEFINITION. Demand Admission and the Freshness Timer (chapter 6). -/

namespace Sys2Proof.Machine

/-- Demands are judged in ARMED, ACTIVE and FALLBACK (R97). -/
def Mode.takesDemand : Mode → Bool
  | .armed | .active | .fallback => true
  | .pass | .isolated => false

/-- The source is admitted for DEMAND: no source while the map is EMPTY, otherwise by its entry (R98, R144). -/
def State.demandAdmitted (s : State) (source : Nat) : Bool :=
  s.services.map ≠ .empty && (s.tables.map[source]?.elim false fun e => e.demand)

/-- The demand record a DEMAND body carries (R182). -/
def DemandRecord.ofFrame (f : Frame) : DemandRecord :=
  { source := f.source
    sequence := f.body.getD 0 0
    demand := wordOf (f.body.getD 1 0) (f.body.getD 2 0)
    reference := wordOf (f.body.getD 3 0) (f.body.getD 4 0)
    band := f.body.getD 5 0
    retarder := f.body.getD 6 0 }

/-- Check 3: the body holds all five fields, and demand and reference speed lie in range (R99). -/
def demandBodyValid (f : Frame) : Bool :=
  7 ≤ f.body.length && (DemandRecord.ofFrame f).demand.toNat ≤ 1000 &&
    (DemandRecord.ofFrame f).reference.toNat ≤ 1500

/-- Check 4: newer than the last sequence, modulo 256 (R100). -/
def sequenceNewer (last : Option Byte) (sequence : Byte) : Bool :=
  match last with
  | none => true
  | some l => 1 ≤ (sequence - l).toNat && (sequence - l).toNat ≤ 127

/-- The re-entry count after a take (R102). -/
def reentryAfter (last : Option Byte) (sequence : Byte) (count : Nat) : Nat :=
  match last with
  | none => 1
  | some l => if sequence = l + 1 then (if count < 255 then count + 1 else 255) else 1

/-- Steps 1 to 4 of a take: the record, the last sequence, the preset, the re-entry count (R101). -/
def State.takeRecord (s : State) (d : DemandRecord) : State :=
  { s with
    record := some d
    lastSequence := some d.sequence
    timer := .running s.tables.freshnessSpan
    reentryCount := reentryAfter s.lastSequence d.sequence s.reentryCount }

/-- The take of a demand (R101), with the claim of step 5. -/
def State.takeDemand (s : State) (d : DemandRecord) : State :=
  (s.takeRecord d).demandTakenClaim d.demand.toNat

/-- The judging of a DEMAND frame by checks 1 to 4 (6.2, R97 to R101). -/
def State.judgeDemand (s : State) (f : Frame) : State :=
  if !(stationValid s.station && s.mode.takesDemand) then s
  else if !s.demandAdmitted f.source.toNat then s.raise .sourceRefused f.source.toNat
  else if !demandBodyValid f then s.raise .frameDamaged 3
  else if !sequenceNewer s.lastSequence (DemandRecord.ofFrame f).sequence then s
  else s.takeDemand (DemandRecord.ofFrame f)

/-- DEMAND_FRAME (R96): the frame is forwarded unchanged whatever Demand Admission decides. -/
def execDemandFrame (s : State) : Host.Outcome State Fault Refusal :=
  .next <| s.take .demandFrame fun e s =>
    (s.judgeDemand (Frame.ofContent (contentOf e.bytes)), contentOf e.bytes)

/-- TIMER_STEP (R103): a RUNNING timer decreases by 1; a HELD one does not count. At 0 the expiry is due (log 4). -/
def execTimerStep (s : State) : Host.Outcome State Fault Refusal :=
  .next <|
    match s.timer with
    | .held => s
    | .running r => { s with timer := .running (r - 1) }

/-- The expiry of R105: DEMAND_LOST with the mode as detail, the preset, re-entry count 0, last sequence none,
and the claim. -/
def State.expire (s : State) : State :=
  let lost := s.raise .demandLost s.mode.code
  { lost with timer := .running s.tables.freshnessSpan, reentryCount := 0, lastSequence := none }.faultClaim

/-- EXPIRY (R105): when the remaining of a RUNNING timer has reached 0; after a preset or a HELD timer it does not
happen (R91, R104, R106). -/
def execExpiry (s : State) : Host.Outcome State Fault Refusal :=
  .next (if s.timer = .running 0 then s.expire else s)

end Sys2Proof.Machine
end

