-- ==== Sys2Proof/Machine/FramePath.lean ====
section
/-! DEFINITION. The frame path (chapter 8): the Loop Receiver, the Receive Queue, the takes that dispatch to no
block, the Transmit Queue and the Loop Transmitter. -/

namespace Sys2Proof.Machine

/-! ### Reception (R126 to R130) -/

/-- An entry reserved at a frame start (R127). -/
def RxEntry.reserved : RxEntry := { bytes := [], framingFailed := false, status := .inFlight }

/-- A character stored in an entry in flight; a stop bit at the space level is a framing failure, and its data
bits are kept (R126, R127). An entry holds 80 bytes: the 81st character does not complete in it (R128). -/
def RxEntry.store (e : RxEntry) (data : Byte) (stopAtMark : Bool) : RxEntry :=
  if e.status = .inFlight && e.bytes.length < 80 then
    { e with bytes := e.bytes ++ [data], framingFailed := e.framingFailed || !stopAtMark }
  else e

/-- The check bytes are the last two bytes received (R129). -/
def receivedCheck (bytes : List Byte) : Word :=
  wordOf (bytes.getD (bytes.length - 2) 0) (bytes.getD (bytes.length - 1) 0)

/-- The end tag that idle gives, by the rows of R128 from the second on. -/
def RxEntry.idleTag (e : RxEntry) : EndTag :=
  if e.framingFailed then .damaged
  else if e.bytes.length < 6 then .damaged
  else if !(e.bytes.getD 1 0).getLsbD 0 && e.bytes.length ≠ 6 + (e.bytes.getD 3 0).toNat then .damaged
  else if receivedCheck e.bytes ≠ checkCode (contentOf e.bytes) then .damaged
  else .complete

/-- The entry becomes complete, with the kind tag of its first byte (R130). -/
def RxEntry.finish (e : RxEntry) (ending : EndTag) : RxEntry :=
  { e with status := .finished (KindTag.ofByte (e.bytes.getD 0 0)) ending }

/-- The last entry of a queue changed. -/
def updateLast (f : RxEntry → RxEntry) : List RxEntry → List RxEntry
  | [] => []
  | [e] => [f e]
  | e :: e' :: rest => e :: updateLast f (e' :: rest)

/-- The entry in flight, which is the last of the Receive Queue while a frame is received (8.2). -/
def State.inFlight (s : State) : Option RxEntry :=
  match s.receiver, s.receiveQueue.getLast? with
  | .receiving, some e => if e.status = .inFlight then some e else none
  | _, _ => none

/-- FRAME_START (R127): reserves an entry, or discards the frame and raises QUEUE_OVERRUN. The receiver recognises
a frame start only after idle (R126). -/
def execFrameStart (s : State) : Host.Outcome State Fault Refusal :=
  .next <|
    match s.receiver with
    | .ready =>
      if s.receiveQueue.length < 4 then
        { s with receiver := .receiving, receiveQueue := s.receiveQueue ++ [RxEntry.reserved] }
      else { s.raise .queueOverrun 0 with receiver := .ignoring }
    | .awaitIdle | .receiving | .ignoring => s

/-- CHARACTER_COMPLETION (R126): stored in the entry in flight; ignored where there is none (R127, R128). -/
def execCharacterCompletion (data : Byte) (stopAtMark : Bool) (s : State) : Host.Outcome State Fault Refusal :=
  .next <|
    match s.inFlight with
    | some _ => { s with receiveQueue := updateLast (fun e => e.store data stopAtMark) s.receiveQueue }
    | none => s

/-- FRAME_COMPLETION (R128): idle ends the frame in flight. Idle is counted after the stop bit of a character
(R126), so at least one byte is held (log 10). -/
def execFrameCompletion (s : State) : Host.Outcome State Fault Refusal :=
  .next <|
    match s.inFlight with
    | some e =>
      if e.bytes = [] then s
      else { s with receiver := .ready, receiveQueue := updateLast (fun e => e.finish e.idleTag) s.receiveQueue }
    | none => s

/-- OVERLONG_COMPLETION (R128): the start bit of an 81st character, with 80 bytes held. -/
def execOverlongCompletion (s : State) : Host.Outcome State Fault Refusal :=
  .next <|
    match s.inFlight with
    | some e =>
      if e.bytes.length = 80 then
        { s with receiver := .ignoring, receiveQueue := updateLast (fun e => e.finish .overlong) s.receiveQueue }
      else s
    | none => s

/-- RECEIVER_IDLE (R126): idle with no frame in flight; frame starts are recognised again. -/
def execReceiverIdle (s : State) : Host.Outcome State Fault Refusal :=
  .next <|
    match s.receiver with
    | .awaitIdle | .ignoring => { s with receiver := .ready }
    | .ready | .receiving => s

/-! ### Takes that dispatch to no block (R132, R133) -/

/-- The content forwarded from a DAMAGED or OVERLONG entry of `n` bytes: 6 to 80 keep all but the place of the
check code, fewer are cut or extended with zero bytes to 4; the damaged mark is set (R132). -/
def damagedContent (bytes : List Byte) : List Byte :=
  let kept := if 6 ≤ bytes.length then contentOf bytes else (bytes ++ [0, 0, 0, 0]).take 4
  (Frame.ofContent kept).markDamaged.content

/-- The detail of FRAME_DAMAGED: 1 for DAMAGED, 2 for OVERLONG (R132). -/
def damageDetail (e : RxEntry) : Nat :=
  match e.status with
  | .finished _ .overlong => 2
  | .finished _ .damaged | .finished _ .complete | .inFlight => 1

/-- DAMAGED_FRAME_FORWARD (R132). -/
def execDamagedFrameForward (s : State) : Host.Outcome State Fault Refusal :=
  .next <| s.take .damagedFrameForward fun e s =>
    (s.raise .frameDamaged (damageDetail e), damagedContent e.bytes)

/-- FORWARD_UNCHANGED (R132, R133): nothing is raised and nothing dispatched. -/
def execForwardUnchanged (s : State) : Host.Outcome State Fault Refusal :=
  .next <| s.take .forwardUnchanged fun e s => (s, contentOf e.bytes)

/-! ### Transmission (R134, R135) -/

/-- TRANSMITTER_TAKE (R134): the head of the Transmit Queue, with its check code computed, begins to be sent. -/
def execTransmitterTake (s : State) : Host.Outcome State Fault Refusal :=
  .next <|
    match s.sending, s.transmitQueue with
    | none, content :: rest => { s with sending := some (withCheckCode content), transmitQueue := rest }
    | none, [] => s
    | some _, _ => s

/-- FRAME_SENT (R134): the last check byte is completed. -/
def execFrameSent (s : State) : Host.Outcome State Fault Refusal :=
  .next { s with sending := none }

end Sys2Proof.Machine
end

