-- ==== Sys2Proof/Config.lean ====
section
/-! DEFINITION. The free values of the model: what the manual does not state. Both kinds are met only in
states that no run reaches (logs 8 and 9); nothing in Lean can evaluate them. -/

namespace Sys2Proof

/-- DESIGN CHOICE (log 8), safe: the demand a control period in ACTIVE would read with no current demand
record present. R10: in ACTIVE the record is always present. -/
opaque Config.absentDemand : Word

/-- As `Config.absentDemand`, for the reference speed (log 8). -/
opaque Config.absentReference : Word

/-- As `Config.absentDemand`, for the load band (log 8). -/
opaque Config.absentBand : Byte

/-- As `Config.absentDemand`, for the retarder flag (log 8). -/
opaque Config.absentRetarder : Byte

/-- DESIGN CHOICE (log 9), safe: the curve pressure of curve number `curve` at `demand` where that curve is
not one of the four, or has no breakpoint in use at or below `demand`. R3: in a curve IN SERVICE there
always is one, since its first demand is 0. -/
opaque Config.unstatedCurvePressure (curve demand : Nat) : Nat

end Sys2Proof
end

