-- ==== Sys2Proof/Machine/Modulation.lean ====
section
/-! DEFINITION. The Modulation Engine's control period event and the tooth counters (chapters 1, 2 and 3). -/

namespace Sys2Proof.Machine

/-! ### Demand curves and load scaling (chapter 1) -/

/-- The demand used: the record's demand less the retarder credit on a REAR axle with the retarder flag set (R8). -/
def demandUsed (t : Tables) (d : DemandRecord) : Nat :=
  if d.retarder ≠ 0 && t.axleRole = 2 then d.demand.toNat - t.retarderCredit else d.demand.toNat

/-- The breakpoint places of a curve page as pairs of demand and pressure (R185). -/
def placesOf : List Word → List (Nat × Nat)
  | d :: p :: rest => (d.toNat, p.toNat) :: placesOf rest
  | _ => []

/-- The breakpoint count word of a curve page (R2). -/
def breakpointCount (v : Vector Word 25) : Nat := v[0].toNat

/-- The breakpoints in use: the places below the count (R2, R3). -/
def breakpoints (v : Vector Word 25) : List (Nat × Nat) := (placesOf v.toList.tail).take (breakpointCount v)

/-- The pressure at `x` between a breakpoint at or below `x` and the next one above it: computed exactly and
truncated once. It equals p + (q - p) * (x - d) / (e - d) where the pressures do not decrease (R3). -/
def interpolate (d p e q x : Nat) : Nat := (p * (e - x) + q * (x - d)) / (e - d)

/-- The lookup of R3 in the breakpoints in use: from the highest index whose demand is at or below `x`. -/
def lookup : List (Nat × Nat) → Nat → Option Nat
  | [], _ => none
  | (d, p) :: rest, x =>
    match lookup rest x with
    | some y => some y
    | none =>
      if d ≤ x then
        match rest with
        | [] => some p
        | (e, q) :: _ => some (interpolate d p e q x)
      else none

/-- The curve pressure of a curve index at a demand (R3); out of R3's shape it is a free value (log 9). -/
def curvePressure (t : Tables) (curve x : Nat) : Nat :=
  match t.curves[curve]? with
  | some v => (lookup (breakpoints v) x).getD (Config.unstatedCurvePressure curve x)
  | none => Config.unstatedCurvePressure curve x

/-- The entry the load band selects: band 7 for 8 or more (R5). -/
def loadEntry (t : Tables) (band : Nat) : LoadEntry :=
  if h : band < 8 then t.load[band] else t.load[7]

/-- The scaled pressure: divided by 64, 128, 256 or 512 by the shift code, truncated (R6). -/
def scaledPressure (curve factor shift : Nat) : Nat := curve * factor / (64 * 2 ^ shift)

/-- Steps 1 to 3 of the chain (R9). -/
def chainScaled (t : Tables) (d : DemandRecord) : Nat :=
  let e := loadEntry t d.band.toNat
  scaledPressure (curvePressure t e.curve.toNat (demandUsed t d)) e.factor.toNat e.shift.toNat

/-- Step 4 of the chain: at most the ceiling (R9). -/
def chainLimited (t : Tables) (d : DemandRecord) : Nat := min (chainScaled t d) t.ceiling

/-- The peer cap after this period's step 4 value (R12). -/
def peerCapAfter (cap : Option Nat) (peerSlip : Bool) (limited : Nat) : Option Nat :=
  if peerSlip then some (cap.getD limited) else none

/-- Step 5 of the chain: the base target (R9). -/
def baseTarget (limited : Nat) (cap : Option Nat) : Nat :=
  match cap with
  | some c => min limited c
  | none => limited

/-! ### Wheel speed and slip (chapter 2) -/

/-- The wheel speed (R20). -/
def wheelSpeed (teeth factor : Nat) : Nat := teeth * factor / 256

/-- The zero-speed run of a wheel in OK (R31). -/
def zeroRunAfter (teeth reference run : Nat) : Nat :=
  if teeth = 0 then (if 150 ≤ reference then run + 1 else 0) else 0

/-- The speed fault machine (R31, R32, R34). -/
def speedFaultStep (teeth reference : Nat) (w : WheelRecord) : WheelRecord :=
  if w.speedFault then
    if 1 ≤ teeth then { w with speedFault := false, zeroRun := 0 } else w
  else
    let run := zeroRunAfter teeth reference w.zeroRun
    { w with zeroRun := run, speedFault := 40 ≤ run }

/-- The slip, by the rows of R21 from the top. -/
def slipOf (fault : Bool) (reference minimum speed : Nat) : Nat :=
  if fault then 0
  else if reference < minimum then 0
  else if reference ≤ speed then 0
  else (reference - speed) * 1000 / reference

/-- The stop-end condition: the demand as received is 0, or the reference speed is below the minimum (R22). -/
def stopEnd (t : Tables) (d : DemandRecord) : Bool :=
  d.demand.toNat = 0 || d.reference.toNat < t.minimumReference

/-- One transition of R25 to R28, from the slip, the measured pressure and the base target of this period and the
state time at its start. -/
def slipTransition (t : Tables) (base slip measured time : Nat) : SlipState → SlipState
  | .free =>
    if t.dumpThreshold ≤ slip then .dump measured
    else if t.holdThreshold ≤ slip then .hold measured
    else .free
  | .hold held =>
    if t.dumpThreshold ≤ slip then .dump held
    else if slip < t.reapplyThreshold then .rebuild measured
    else if t.holdLimit ≤ time then .rebuild measured
    else .hold held
  | .dump held =>
    if slip < t.holdThreshold then .hold measured
    else if t.dumpLimit ≤ time then .hold measured
    else .dump held
  | .rebuild ramp =>
    if t.holdThreshold ≤ slip then .hold measured
    else if base ≤ ramp then .free
    else .rebuild (ramp + t.rebuildStep)

/-- The slip state that this period gives: FREE at stop end and in speed FAULT, otherwise one transition (R22,
R33, R36). -/
def nextSlipState (t : Tables) (stop : Bool) (base : Nat) (w : WheelRecord) : SlipState :=
  if stop || w.speedFault then .free
  else slipTransition t base w.slip w.measured w.stateTime w.slipState

/-- The state time: 1 on a change of state, otherwise one more, stopping at 65535 (R24). -/
def stateTimeAfter (old new : SlipState) (time : Nat) : Nat :=
  if new.code = old.code then (if time < 65535 then time + 1 else 65535) else 1

/-- A transition into DUMP (R29). -/
def entersDump : SlipState → SlipState → Bool
  | .dump _, _ => false
  | .free, .dump _ => true
  | .hold _, .dump _ => true
  | .rebuild _, .dump _ => true
  | .free, .free | .free, .hold _ | .free, .rebuild _ => false
  | .hold _, .free | .hold _, .hold _ | .hold _, .rebuild _ => false
  | .rebuild _, .free | .rebuild _, .hold _ | .rebuild _, .rebuild _ => false

/-- The cycle count after a DUMP entry, stopping at 255 (R29). -/
def cycleCountAfter (count : Nat) : Nat := if count < 255 then count + 1 else 255

/-- The slip work of a wheel: the slip state, the state time, the cycle count and the exhaustion cap (R22 to R30). -/
def slipWork (t : Tables) (stop : Bool) (base : Nat) (w : WheelRecord) : WheelRecord :=
  let new := nextSlipState t stop base w
  let entered := entersDump w.slipState new
  let count := if stop then 0 else if entered then cycleCountAfter w.cycleCount else w.cycleCount
  let reached := entered && w.cycleCount < count && count = t.cycleLimit
  { w with
    slipState := new
    stateTime := stateTimeAfter w.slipState new w.stateTime
    cycleCount := count
    exhaustionCap := if stop then none else if reached then new.held? else w.exhaustionCap }

/-- A DUMP entry raised the cycle count to the cycle limit at this period (R30). -/
def exhausts (t : Tables) (old new : WheelRecord) : Bool :=
  entersDump old.slipState new.slipState && old.cycleCount < new.cycleCount && new.cycleCount = t.cycleLimit

/-- The target of the slip state (R13 step 1). -/
def stateTarget (base : Nat) : SlipState → Nat
  | .free => base
  | .hold held => held
  | .dump _ => 0
  | .rebuild ramp => min ramp base

/-- The value of R13 step 2: at most the exhaustion cap. -/
def cappedTarget (base : Nat) (w : WheelRecord) : Nat :=
  match w.exhaustionCap with
  | some c => min (stateTarget base w.slipState) c
  | none => stateTarget base w.slipState

/-- The target pressure (R13) and the clipped flag (R11). -/
def targetWork (t : Tables) (scaled base : Nat) (w : WheelRecord) : WheelRecord :=
  { w with
    target := min (cappedTarget base w) t.ceiling
    clipped := t.ceiling < scaled || t.ceiling < cappedTarget base w }

/-- Steps 1 to 3 of the wheel work: speed, speed fault, slip (R36). -/
def speedWork (t : Tables) (d : DemandRecord) (wheel : Wheel) (teeth : Nat) (w : WheelRecord) : WheelRecord :=
  let w := speedFaultStep teeth d.reference.toNat { w with speed := wheelSpeed teeth (t.wheelFactor wheel) }
  { w with slip := slipOf w.speedFault d.reference.toNat t.minimumReference w.speed }

/-- The wheel work of one wheel in the order of R36. -/
def wheelWork (t : Tables) (d : DemandRecord) (base : Nat) (wheel : Wheel) (teeth : Nat) (w : WheelRecord) :
    WheelRecord :=
  targetWork t (chainScaled t d) base (slipWork t (stopEnd t d) base (speedWork t d wheel teeth w))

/-- The detail of a wheel's raise: 0 left, 1 right (R32, R30, R44). -/
def wheelDetail : Wheel → Nat
  | .left => 0
  | .right => 1

/-- What the work of one wheel raises, from its record before and after: SPEED_FAULT at step 2 (R32), then
SLIP_EXHAUSTED at step 6 (R30). -/
def State.raiseWheel (s : State) (t : Tables) (wheel : Wheel) (old new : WheelRecord) : State :=
  let s := if !old.speedFault && new.speedFault then s.raise .speedFault (wheelDetail wheel) else s
  if exhausts t old new then s.raise .slipExhausted (wheelDetail wheel) else s

/-! ### Ratio choice (chapter 3) -/

/-- The inlet ratio of a wheel (R53). -/
def inletRatio (t : Tables) (w : WheelRecord) : Nat :=
  match w.slipState with
  | .dump _ | .hold _ => 0
  | .free | .rebuild _ =>
    if w.measured + t.deadband < w.target then min t.wheelPeriod ((w.target - w.measured) * t.applyGain) else 0

/-- The exhaust ratio of a wheel (R53). -/
def exhaustRatio (t : Tables) (w : WheelRecord) : Nat :=
  match w.slipState with
  | .dump _ => t.wheelPeriod
  | .hold _ => 0
  | .free | .rebuild _ =>
    if w.target + t.deadband < w.measured then min t.wheelPeriod ((w.measured - w.target) * t.releaseGain) else 0

/-- The four pending ratios written: the choice of R53 with the engaged flag set, 0 with it clear (R52, R54). -/
def writeRatios (t : Tables) (engaged : Bool) (wheels : PerWheel WheelRecord) (c : PerChan Channel) :
    PerChan Channel :=
  { bk := c.bk
    li := c.li.writePending (if engaged then inletRatio t wheels.left else 0)
    lx := c.lx.writePending (if engaged then exhaustRatio t wheels.left else 0)
    ri := c.ri.writePending (if engaged then inletRatio t wheels.right else 0)
    rx := c.rx.writePending (if engaged then exhaustRatio t wheels.right else 0) }

/-! ### The control period event (3.3) -/

/-- The tooth counts taken and the latest valid pressures copied, 0 where none is present (R19, R47, R49). -/
def State.takeInputs (s : State) : State :=
  { s with
    teeth := { left := 0, right := 0 }
    wheels :=
      { left := { s.wheels.left with measured := optionNumber s.latestValid.left }
        right := { s.wheels.right with measured := optionNumber s.latestValid.right } } }

/-- The demand record the event reads. In ACTIVE it is always present (R10); without one its values are free
(log 8). -/
def State.recordRead (s : State) : DemandRecord :=
  match s.record with
  | some d => d
  | none =>
    { source := 0, sequence := 0, demand := Config.absentDemand, reference := Config.absentReference
      band := Config.absentBand, retarder := Config.absentRetarder }

/-- Steps 3 to 7 of R50, with the tooth counts taken, on the state after steps 1 and 2. -/
def State.modulate (s : State) (counts : PerWheel Nat) : State :=
  let t := s.tables
  let d := s.recordRead
  let engaged := s.engaged || s.channels.bk.inHold
  let cap := peerCapAfter s.peerCap s.peerSlip (chainLimited t d)
  let base := baseTarget (chainLimited t d) cap
  let left := wheelWork t d base .left counts.left s.wheels.left
  let right := wheelWork t d base .right counts.right s.wheels.right
  let wheels : PerWheel WheelRecord := { left := left, right := right }
  let raised := (s.raiseWheel t .left s.wheels.left left).raiseWheel t .right s.wheels.right right
  { raised with
    engaged := engaged
    peerCap := cap
    wheels := wheels
    channels := writeRatios t engaged wheels s.channels }

/-- CONTROL_PERIOD_EVENT: R49 outside ACTIVE, R50 in ACTIVE. -/
def execControlPeriodEvent (s : State) : Host.Outcome State Fault Refusal :=
  .next (if s.mode = .active then s.takeInputs.modulate s.teeth else s.takeInputs)

/-- TOOTH_EDGE (R19): the counter stops at 255. -/
def execToothEdge (wheel : Wheel) (s : State) : Host.Outcome State Fault Refusal :=
  .next { s with teeth := s.teeth.set wheel (if s.teeth.get wheel < 255 then s.teeth.get wheel + 1 else 255) }

end Sys2Proof.Machine
end

