-- ==== Sys2Proof/Machine/Pages.lean ====
section
/-! DEFINITION. The page map: the pages, their lengths (R148) and their words (R185, R186), and the storing of words
by WRITE (R151 to R153). -/

namespace Sys2Proof.Machine

/-- The eight tables (chapter 10). -/
inductive TableName where
  | axle
  | map
  | load
  | slip
  | curve (index : Fin 4)
deriving DecidableEq, Repr

/-- The pages of the page map (R148). -/
inductive Page where
  | identity
  | table (name : TableName)
  | wheels
  | channels
  | attention
deriving DecidableEq, Repr

/-- The page of a page number; a number not in the table of R148 is no page. -/
def Page.ofNumber : Nat → Option Page
  | 0 => some .identity
  | 1 => some (.table .axle)
  | 2 => some (.table .map)
  | 3 => some (.table .load)
  | 4 => some (.table .slip)
  | 8 => some (.table (.curve 0))
  | 9 => some (.table (.curve 1))
  | 10 => some (.table (.curve 2))
  | 11 => some (.table (.curve 3))
  | 12 => some .wheels
  | 13 => some .channels
  | 14 => some .attention
  | _ => none

/-- The length of a page in words (R148). -/
def Page.length : Page → Nat
  | .identity => 16
  | .table .axle => 18
  | .table .map => 16
  | .table .load => 8
  | .table .slip => 8
  | .table (.curve _) => 25
  | .wheels => 24
  | .channels => 30
  | .attention => 34

/-! ### Words of the tables -/

/-- The word of an Admission Map entry: bit 0 demand admitted, bit 1 manage admitted, bits 5 to 4 the ceiling; the
other bits read 0 (R185, R186). -/
def AdmissionEntry.word (e : AdmissionEntry) : Word :=
  numberWord (flagBit e.demand 0 + flagBit e.manage 1 + 16 * e.ceiling.toNat)

/-- The entry a written word carries; its other bits are not kept (R153). -/
def AdmissionEntry.ofWord (w : Word) : AdmissionEntry :=
  { demand := w.getLsbD 0, manage := w.getLsbD 1, ceiling := w.extractLsb' 4 2 }

/-- The word of a Load Table entry: bits 3 to 0 the curve index, 11 to 4 the factor, 13 to 12 the shift code
(R185, R186). -/
def LoadEntry.word (e : LoadEntry) : Word :=
  numberWord (e.curve.toNat + 16 * e.factor.toNat + 4096 * e.shift.toNat)

/-- The entry a written word carries; its other bits are not kept (R4). -/
def LoadEntry.ofWord (w : Word) : LoadEntry :=
  { curve := w.extractLsb' 0 4, factor := w.extractLsb' 4 8, shift := w.extractLsb' 12 2 }

/-- The words of a table as a READ returns them (R2, R4, R7, R23, R153). -/
def Tables.words (t : Tables) : TableName → List Word
  | .axle => t.axle.toList
  | .map => t.map.toList.map AdmissionEntry.word
  | .load => t.load.toList.map LoadEntry.word
  | .slip => t.slip.toList
  | .curve c => t.curves[c].toList

/-- One word stored at an offset of a table (R2, R4, R7, R23, R153). -/
def Tables.store (t : Tables) (name : TableName) (offset : Nat) (w : Word) : Tables :=
  match name with
  | .axle => { t with axle := t.axle.setIfInBounds offset w }
  | .map => { t with map := t.map.setIfInBounds offset (AdmissionEntry.ofWord w) }
  | .load => { t with load := t.load.setIfInBounds offset (LoadEntry.ofWord w) }
  | .slip => { t with slip := t.slip.setIfInBounds offset w }
  | .curve c => { t with curves := t.curves.set c (t.curves[c].setIfInBounds offset w) }

/-- The protected words: ceiling pressure, freshness span and fallback limit of the Axle Record, and the dump limit
of the Slip Table (R152). -/
def protectedWord : TableName → Nat → Bool
  | .axle, offset => offset = 1 || offset = 9 || offset = 10
  | .slip, offset => offset = 4
  | .map, _ | .load, _ | .curve _, _ => false

/-- The data words stored from an offset upwards; at an effective level other than 0 a protected word is left as
it is (R151, R152). -/
def Tables.storeAll (name : TableName) (level : Nat) : List Word → Nat → Tables → Tables
  | [], _, t => t
  | w :: rest, offset, t =>
    Tables.storeAll name level rest (offset + 1)
      (if level ≠ 0 && protectedWord name offset then t else t.store name offset w)

/-- The number of protected words among `n` words from an offset (R152). -/
def protectedCarried (name : TableName) : Nat → Nat → Nat
  | 0, _ => 0
  | n + 1, offset => (if protectedWord name offset then 1 else 0) + protectedCarried name n (offset + 1)

/-- The service state of a table (R161). -/
def Services.of (v : Services) : TableName → Service
  | .axle => v.axle
  | .map => v.map
  | .load => v.load
  | .slip => v.slip
  | .curve c => v.curves[c]

/-- The service state of one table changed (R161). -/
def Services.put (v : Services) (name : TableName) (x : Service) : Services :=
  match name with
  | .axle => { v with axle := x }
  | .map => { v with map := x }
  | .load => { v with load := x }
  | .slip => { v with slip := x }
  | .curve c => { v with curves := v.curves.set c x }

/-! ### Words of the state pages (R185) -/

/-- The service states, 2 bits each (R185, page 0 offset 5). -/
def Services.word (v : Services) : Word :=
  numberWord (v.axle.code + 4 * v.map.code + 16 * v.load.code + 64 * v.slip.code + 256 * v.curves[0].code +
    1024 * v.curves[1].code + 4096 * v.curves[2].code + 16384 * v.curves[3].code)

/-- Words 8 to 12 of page 0: the presence and the record, 0 when absent (R185). -/
def recordWords : Option DemandRecord → List Word
  | some d => [1, wordOf d.source d.sequence, d.demand, d.reference, wordOf d.band d.retarder]
  | none => [0, 0, 0, 0, 0]

/-- An optional sequence: low byte, bit 8 set when present, word 0 when absent (R185). -/
def sequenceWord : Option Byte → Word
  | some b => wordOf 1 b
  | none => 0

/-- Page 0, identity and state (R185). -/
def State.identityWords (s : State) : List Word :=
  [0x00B7, 0x0418, 0x0001, numberWord s.station, numberWord s.mode.code, s.services.word,
   numberWord s.fallbackCount, numberWord s.reentryCount] ++ recordWords s.record ++
  [sequenceWord s.lastSequence, numberWord (flagBit s.peerSlip 0 + flagBit s.peerNotReady 1),
   numberWord s.notReadyRun]

/-- One Wheel Record of page 12 (R185). -/
def wheelWords (w : WheelRecord) (engaged : Bool) (sense : Sense) : List Word :=
  [numberWord w.slipState.code, numberWord w.speed, numberWord w.slip, numberWord w.measured,
   numberWord w.target, numberWord (optionNumber w.slipState.held?), numberWord (optionNumber w.slipState.ramp?),
   numberWord w.stateTime, numberWord w.cycleCount, numberWord (optionNumber w.exhaustionCap),
   numberWord (flagBit w.clipped 0 + flagBit w.speedFault 1 + flagBit w.slipState.held?.isSome 2 +
     flagBit w.slipState.ramp?.isSome 3 + flagBit w.exhaustionCap.isSome 4 + flagBit engaged 5),
   numberWord (256 * w.zeroRun + sense.code)]

/-- One channel record of page 13 (R185). -/
def channelWords (c : Channel) : List Word :=
  [numberWord (c.mode.code + flagBit c.latch 8 + flagBit c.output 9), numberWord c.period,
   numberWord c.activeRatio, numberWord c.pendingRatio, numberWord c.phase, numberWord c.pulseRemaining]

/-- The three words of an attention entry (R185). -/
def entryWords (e : AttentionEntry) : List Word :=
  [numberWord (256 * e.kind.code + e.detail), numberWord e.repeats, sequenceWord e.firstSeen]

/-- Page 14 up to its current length: the number of entries, then the entries in priority order (R179, R185). -/
def attentionWords (l : List AttentionEntry) : List Word :=
  numberWord l.length :: l.flatMap entryWords

/-- The words of a page up to its length in the page map; page 14 reads 0 beyond its current length (R150). -/
def State.pageWords (s : State) : Page → List Word
  | .identity => s.identityWords
  | .table name => s.tables.words name
  | .wheels =>
    wheelWords s.wheels.left s.engaged s.sense.left ++ wheelWords s.wheels.right s.engaged s.sense.right
  | .channels =>
    channelWords s.channels.bk ++ channelWords s.channels.li ++ channelWords s.channels.lx ++
      channelWords s.channels.ri ++ channelWords s.channels.rx
  | .attention => (attentionWords s.attention ++ List.replicate 34 0).take 34

/-- The current length of a page: 1 + 2 x breakpoint count, at most 25, for a curve; 1 + 3 x entries for page 14;
the length in the page map for the others (R2, R150). -/
def State.currentLength (s : State) : Page → Nat
  | .table (.curve c) => min 25 (1 + 2 * breakpointCount s.tables.curves[c])
  | .attention => 1 + 3 * s.attention.length
  | .identity => 16
  | .table .axle => 18
  | .table .map => 16
  | .table .load => 8
  | .table .slip => 8
  | .wheels => 24
  | .channels => 30

end Sys2Proof.Machine
end

