-- ==== Sys2Proof/Machine/Arming.lean ====
section
/-! DEFINITION. ARM: the checks A1 to A10 and the acts of a successful ARM (chapter 10). -/

namespace Sys2Proof.Machine

/-- A number in an inclusive range (0.6 note 2). -/
def inRange (low high n : Nat) : Bool := low ≤ n && n ≤ high

/-- The range in service of the Axle Record field at an offset (R166). -/
def axleFieldValid (t : Tables) : Nat → Bool
  | 0 => inRange 1 3 t.axleRole
  | 1 => inRange 200 1000 t.ceiling
  | 2 => inRange 5 50 t.deadband
  | 3 => inRange 1 40 t.applyGain
  | 4 => inRange 1 40 t.releaseGain
  | 5 => inRange 100 2000 t.wheelPeriod
  | 6 => inRange 100 2000 t.backupPeriod
  | 7 => inRange 2 20 t.pullInLength
  | 8 => inRange 1 t.backupPeriod t.holdRatio
  | 9 => inRange 5 50 t.freshnessSpan
  | 10 => inRange 1 8 t.fallbackLimit
  | 11 => inRange 1 65535 (t.wheelFactor .left)
  | 12 => inRange 1 65535 (t.wheelFactor .right)
  | 13 => inRange 0 255 t.axle[13].toNat
  | 14 => inRange 0 255 t.axle[14].toNat
  | 15 => inRange 0 255 t.axle[15].toNat
  | 16 => inRange 0 1 t.soloOption
  | 17 => inRange 0 300 t.retarderCredit
  | _ => true

/-- The range in service of the Slip Table field at an offset (R167). -/
def slipFieldValid (t : Tables) : Nat → Bool
  | 0 => inRange 20 400 t.holdThreshold
  | 1 => inRange 40 600 t.dumpThreshold
  | 2 => inRange 10 300 t.reapplyThreshold
  | 3 => inRange 20 200 t.minimumReference
  | 4 => inRange 10 100 t.dumpLimit
  | 5 => inRange 20 200 t.holdLimit
  | 6 => inRange 1 50 t.rebuildStep
  | 7 => inRange 4 48 t.cycleLimit
  | _ => true

/-- A1: the station number is valid (R165). -/
def State.checkA1 (s : State) : Option Nat := if stationValid s.station then none else some 0

/-- A2: no STATION_CLASH entry pending (R165). -/
def State.checkA2 (s : State) : Option Nat :=
  if (entryOf .stationClash s.attention).isSome then some 0 else none

/-- A3: the Axle Record LOADED and every field in range, in offset order (R166). -/
def State.checkA3 (s : State) : Option Nat :=
  if s.services.axle ≠ .loaded then some 255
  else [0, 1, 2, 3, 4, 5, 6, 7, 8, 9, 10, 11, 12, 13, 14, 15, 16, 17].find? fun i => !axleFieldValid s.tables i

/-- A4: the Admission Map LOADED and at least one source admitted for DEMAND (R167). -/
def State.checkA4 (s : State) : Option Nat :=
  if s.services.map ≠ .loaded then some 255
  else if s.tables.map.toList.any fun e => e.demand then none
  else some 16

/-- A5: the Slip Table LOADED, every field in range, then the thresholds in order (R167). -/
def State.checkA5 (s : State) : Option Nat :=
  if s.services.slip ≠ .loaded then some 255
  else
    match [0, 1, 2, 3, 4, 5, 6, 7].find? fun i => !slipFieldValid s.tables i with
    | some i => some i
    | none =>
      if s.tables.dumpThreshold ≤ s.tables.holdThreshold then some 1
      else if s.tables.holdThreshold ≤ s.tables.reapplyThreshold then some 2
      else none

/-- A Load Table entry passes A6: its curve index and factor in range, and its curve LOADED (R168). -/
def loadEntryValid (v : Services) (e : LoadEntry) : Bool :=
  if h : e.curve.toNat < 4 then inRange 1 255 e.factor.toNat && v.curves[e.curve.toNat] = .loaded else false

/-- A6: the Load Table LOADED and every entry valid, in band order (R168). -/
def State.checkA6 (s : State) : Option Nat :=
  if s.services.load ≠ .loaded then some 255
  else [0, 1, 2, 3, 4, 5, 6, 7].find? fun band => !loadEntryValid s.services (loadEntry s.tables band)

/-- A breakpoint that follows (d, p) in a well-shaped curve (R168). -/
def followsBreakpoint (d p e q : Nat) : Bool := d < e && e ≤ 1000 && p ≤ q && q ≤ 1000

/-- The first breakpoint that breaks the shape, from index `i`, after the breakpoint (d, p) (R168). -/
def shapeFaultFrom (i d p : Nat) : List (Nat × Nat) → Option Nat
  | [] => none
  | (e, q) :: rest => if followsBreakpoint d p e q then shapeFaultFrom (i + 1) e q rest else some i

/-- The breakpoint part of the index of A7: 15 for the count, else the first failing breakpoint (R168). -/
def curveFault (v : Vector Word 25) : Option Nat :=
  if !inRange 2 12 (breakpointCount v) then some 15
  else
    match breakpoints v with
    | [] => none
    | (d, p) :: rest => if d = 0 && p ≤ 1000 then shapeFaultFrom 1 d p rest else some 0

/-- Some band names the curve (R163). -/
def curveReferenced (t : Tables) (c : Nat) : Bool := t.load.toList.any fun e => e.curve.toNat = c

/-- A7: every referenced curve well shaped, in curve order (R168). -/
def State.checkA7 (s : State) : Option Nat :=
  [0, 1, 2, 3].findSome? fun c =>
    if h : c < 4 then
      (if curveReferenced s.tables c then (curveFault s.tables.curves[c]).map fun part => 16 * c + part else none)
    else none

/-- The channels in channel order (R1). -/
def allChannels : List Chan := [.bk, .li, .lx, .ri, .rx]

/-- A pulse is in flight on a channel (R157, R169). -/
def State.pulsing (s : State) (c : Chan) : Bool := (s.channels.get c).mode = .pulse

/-- A8: no EXERCISE pulse in flight (R169). -/
def State.checkA8 (s : State) : Option Nat := (allChannels.find? fun c => s.pulsing c).map chanNumber

/-- A9: no fault latch set (R169). -/
def State.checkA9 (s : State) : Option Nat :=
  (allChannels.find? fun c => (s.channels.get c).latch).map chanNumber

/-- A10: both wheels in sense state OK, the left first (R169). -/
def State.checkA10 (s : State) : Option Nat :=
  if s.sense.left.isFault then some 0 else if s.sense.right.isFault then some 1 else none

/-- The detail of the first check that fails: check number x 256 + index (R164). -/
def State.armFailure (s : State) : Option Nat :=
  [(1, s.checkA1), (2, s.checkA2), (3, s.checkA3), (4, s.checkA4), (5, s.checkA5), (6, s.checkA6), (7, s.checkA7),
   (8, s.checkA8), (9, s.checkA9), (10, s.checkA10)].findSome? fun c => c.2.map fun index => c.1 * 256 + index

/-- The service state of curve `c` after a successful ARM: IN SERVICE where some band names it, else kept (R163). -/
def curveAfterArm (t : Tables) (v : Services) (c : Fin 4) : Service :=
  if curveReferenced t c then .inService else v.curves[c]

/-- The service states after a successful ARM (R163). -/
def servicesAfterArm (t : Tables) (v : Services) : Services :=
  { axle := .inService, map := .inService, load := .inService, slip := .inService
    curves := #v[curveAfterArm t v 0, curveAfterArm t v 1, curveAfterArm t v 2, curveAfterArm t v 3] }

/-- The acts of a successful ARM (R79, R109, R124, R170). -/
def State.armed (s : State) : State :=
  { s with
    mode := .armed
    fallbackCount := 0
    services := servicesAfterArm s.tables s.services
    record := none
    lastSequence := none
    reentryCount := 0
    timer := .running s.tables.freshnessSpan
    peerSlip := false
    peerNotReady := false
    notReadyRun := 0 }

end Sys2Proof.Machine
end

