-- ==== Sys2Proof/Machine/Requests.lean ====
section
/-! DEFINITION. The request path (chapter 9): addressing, the checks, the replies, and the eight kinds of
request. -/

namespace Sys2Proof.Machine

/-! ### Checks 1 to 5 (9.2) -/

/-- The source is admitted for MANAGE: every source while the map is EMPTY, otherwise by its entry (R144). -/
def State.manageAdmitted (s : State) (source : Nat) : Bool :=
  s.services.map = .empty || (s.tables.map[source]?.elim false fun e => e.manage)

/-- The authority ceiling of a source: 0 while the map is EMPTY, otherwise that of its entry (R144). -/
def State.sourceCeiling (s : State) (source : Nat) : Nat :=
  if s.services.map = .empty then 0 else s.tables.map[source]?.elim 0 fun e => e.ceiling.toNat

/-- The effective level: the numerically greater of the requested level and the source's ceiling (R146). -/
def State.effectiveLevel (s : State) (r : Request) : Nat := max r.level (s.sourceCeiling r.source)

/-- The count and the body length that a kind requires (R145, item 4). -/
def countAgrees (k : RequestKind) (r : Request) : Bool :=
  match k with
  | .read => r.bodyLength = 9
  | .write => r.bodyLength = 9 + 2 * r.count
  | .acknowledge | .rearmChannel => r.count = 1 && r.bodyLength = 11
  | .exercise => r.count = 2 && r.bodyLength = 13
  | .arm | .disarm | .loopClear => r.count = 0 && r.bodyLength = 9

/-- For READ, the read mode is COUNTED or TO_END (R145, item 5). -/
def readModeValid (k : RequestKind) (r : Request) : Bool :=
  match k with
  | .read => r.readMode = 0 || r.readMode = 1
  | .write | .acknowledge | .rearmChannel | .exercise | .arm | .disarm | .loopClear => true

/-- Check 2: the request is well formed (R145). -/
def wellFormedRequest (k : RequestKind) (r : Request) : Bool :=
  r.level ≤ 3 && r.count ≤ 32 && countAgrees k r && readModeValid k r

/-- The level a kind requires (R146). -/
def requiredLevel : RequestKind → Nat
  | .read => 3
  | .acknowledge => 2
  | .write | .arm | .disarm | .rearmChannel | .loopClear => 1
  | .exercise => 0

/-- Check 4: the mode meets the kind's condition (R147). -/
def modeAllows (k : RequestKind) (m : Mode) : Bool :=
  match k with
  | .read | .acknowledge | .rearmChannel | .disarm | .loopClear => true
  | .write | .arm | .exercise => m = .pass

/-- Check 5 of a READ (R148). -/
def readFailure (r : Request) : Option Status :=
  match Page.ofNumber r.page with
  | none => some .badPage
  | some p =>
    if r.readMode = 0 then (if p.length < r.offset + r.count then some .badRange else none)
    else if p.length < r.offset then some .badRange
    else none

/-- The table a WRITE of a page number addresses; the other pages are not written (R148). -/
def writeTable (page : Nat) : Option TableName :=
  match Page.ofNumber page with
  | some (.table name) => some name
  | some .identity | some .wheels | some .channels | some .attention => none
  | none => none

/-- Check 5 of a WRITE (R148). -/
def writeFailure (r : Request) : Option Status :=
  match writeTable r.page with
  | none => some .badPage
  | some name => if (Page.table name).length < r.offset + r.count then some .badRange else none

/-- Check 5: the page and range, or the operands (R148). -/
def operandFailure (k : RequestKind) (r : Request) : Option Status :=
  match k with
  | .read => readFailure r
  | .write => writeFailure r
  | .acknowledge => if (AttentionKind.ofCode (r.operand 0)).isSome then none else some .badRange
  | .rearmChannel => if (chanOfNumber (r.operand 0)).isSome then none else some .badRange
  | .exercise =>
    if (chanOfNumber (r.operand 0)).isSome && inRange 1 200 (r.operand 1) then none else some .badRange
  | .arm | .disarm | .loopClear => none

/-- The status of the first of checks 1 to 5 that fails (R143). -/
def State.checkFailure (s : State) (k : RequestKind) (r : Request) : Option Status :=
  if !s.manageAdmitted r.source then some .refusedSource
  else if !wellFormedRequest k r then some .badRequest
  else if requiredLevel k < s.effectiveLevel r then some .refusedAuthority
  else if !modeAllows k s.mode then some .refusedMode
  else operandFailure k r

/-- A request judged: the first failed check decides the reply and changes nothing, but that check 1 raises
SOURCE_REFUSED (R143, R144); a request that passes is performed. -/
def State.judgeRequest (s : State) (k : RequestKind) (perform : State → Request → State × Reply) (r : Request) :
    State × Reply :=
  match s.checkFailure k r with
  | some .refusedSource => (s.raise .sourceRefused r.source, Reply.plain .refusedSource)
  | some status => (s, Reply.plain status)
  | none => perform s r

/-- The frame a MANAGE entry holds. -/
def frameOf (e : RxEntry) : Frame := Frame.ofContent (contentOf e.bytes)

/-- An addressed request, judged and replaced by its reply (R149). -/
def State.answer (s : State) (k : RequestKind) (perform : State → Request → State × Reply) (f : Frame) :
    State × List Byte :=
  let r := Request.ofFrame f
  let judged := s.judgeRequest k perform r
  (judged.1, (f.reply s.station r.tag judged.2).content)

/-- The take of a request of one kind. -/
def State.request (s : State) (k : RequestKind) (perform : State → Request → State × Reply) : State :=
  s.take (.request k) fun e s => s.answer k perform (frameOf e)

/-! ### Addressing (R141, R142) -/

/-- A MANAGE frame that is no request of this unit, or of an unknown kind: a short body is marked damaged; an
unknown kind addressed to this station is judged by check 1 and then answered BAD_REQUEST (R143, R145); every other
is forwarded unchanged, a target of 16 to 255 by the model's choice (DESIGN CHOICE, log 24). -/
def State.address (s : State) (f : Frame) : State × List Byte :=
  if f.body.length < 9 then (s.raise .frameDamaged 1, f.markDamaged.content)
  else
    let r := Request.ofFrame f
    if r.target = s.station then
      if !s.manageAdmitted r.source then
        (s.raise .sourceRefused r.source, (f.reply s.station r.tag (Reply.plain .refusedSource)).content)
      else (s, (f.reply s.station r.tag (Reply.plain .badRequest)).content)
    else (s, f.content)

/-- MANAGE_ADDRESSING (R141, R142). -/
def execManageAddressing (s : State) : Host.Outcome State Fault Refusal :=
  .next <| s.take .manageAddressing fun e s => s.address (frameOf e)

/-! ### READ and WRITE (R150 to R153) -/

/-- The words a READ returns: exactly count words COUNTED, or up to the current length TO_END (R150). -/
def State.readWords (s : State) (r : Request) : List Word :=
  match Page.ofNumber r.page with
  | none => []
  | some p =>
    let finish := if r.readMode = 0 then r.offset + r.count else min (r.offset + r.count) (s.currentLength p)
    ((s.pageWords p).drop r.offset).take (finish - r.offset)

/-- A READ changes nothing it reads (R150). -/
def State.performRead (s : State) (r : Request) : State × Reply :=
  (s, { status := .done, detail := 0, words := s.readWords r })

/-- READ (R150). -/
def execRead (s : State) : Host.Outcome State Fault Refusal :=
  .next (s.request .read State.performRead)

/-- The words of a WRITE stored in its table, which becomes LOADED whatever was applied (R151, R162). -/
def State.storeWords (s : State) (name : TableName) (r : Request) : State :=
  { s with
    tables := Tables.storeAll name (s.effectiveLevel r) r.data r.offset s.tables
    services := s.services.put name .loaded }

/-- The reply of a WRITE: PARTIAL with the number of protected words carried, where its level is not 0 and there
is one (R152). -/
def writeReply (name : TableName) (level : Nat) (r : Request) : Reply :=
  let carried := protectedCarried name r.count r.offset
  if level ≠ 0 && 0 < carried then { status := .partialWrite, detail := carried, words := [] }
  else Reply.plain .done

/-- A WRITE performed (R151); page 2 below level 0 is refused at check 6 (R153). -/
def State.performWrite (s : State) (r : Request) : State × Reply :=
  match writeTable r.page with
  | none => (s, Reply.plain .badPage)
  | some name =>
    if name = .map && s.effectiveLevel r ≠ 0 then (s, Reply.plain .refusedAuthority)
    else (s.storeWords name r, writeReply name (s.effectiveLevel r) r)

/-- WRITE (R151). -/
def execWrite (s : State) : Host.Outcome State Fault Refusal :=
  .next (s.request .write State.performWrite)

/-! ### ARM and DISARM (R154) -/

/-- ARM judged by A1 to A10: CHECK_FAILED with no change, or the acts of R170 (R164). -/
def State.performArm (s : State) (_r : Request) : State × Reply :=
  match s.armFailure with
  | some detail => (s, { status := .checkFailed, detail := detail, words := [] })
  | none => (s.armed, Reply.plain .done)

/-- ARM (R164). -/
def execArm (s : State) : Host.Outcome State Fault Refusal :=
  .next (s.request .arm State.performArm)

/-- DISARM in each mode: nothing in PASS; outside it the leaving act from ACTIVE, every channel OFF, the tables in
service LOADED, the timer HELD, re-entry count 0, PASS (R89, R109). -/
def State.disarm (s : State) : State :=
  if s.mode = .pass then s
  else
    let left := if s.mode = .active then s.leaveActive else s
    { left.forcedOff with mode := .pass, services := s.services.release, timer := .held, reentryCount := 0 }

/-- A DISARM is answered DONE in every mode (R154). -/
def State.performDisarm (s : State) (_r : Request) : State × Reply := (s.disarm, Reply.plain .done)

/-- DISARM (R89). -/
def execDisarm (s : State) : Host.Outcome State Fault Refusal :=
  .next (s.request .disarm State.performDisarm)

/-! ### ACKNOWLEDGE, REARM CHANNEL and EXERCISE (R155 to R157) -/

/-- An ACKNOWLEDGE of a kind (R155): kept with STILL_PRESENT while its cause holds, otherwise removed. -/
def State.acknowledgeKind (s : State) (k : AttentionKind) : State × Reply :=
  if (entryOf k s.attention).isSome && s.causeHolds k then (s, Reply.plain .stillPresent)
  else ({ s with attention := removeKind k s.attention }, Reply.plain .done)

/-- An ACKNOWLEDGE performed; its code has passed check 5. -/
def State.performAcknowledge (s : State) (r : Request) : State × Reply :=
  match AttentionKind.ofCode (r.operand 0) with
  | some k => s.acknowledgeKind k
  | none => (s, Reply.plain .badRange)

/-- ACKNOWLEDGE (R155). -/
def execAcknowledge (s : State) : Host.Outcome State Fault Refusal :=
  .next (s.request .acknowledge State.performAcknowledge)

/-- A fault latch cleared; nothing else of the channel changes (R70). -/
def Channel.clearLatch (c : Channel) : Channel := { c with latch := false }.drive

/-- A REARM CHANNEL of a channel (R70, R156): refused while its fault input is asserted. -/
def State.rearm (s : State) (c : Chan) : State × Reply :=
  if s.faultInputs.get c then (s, Reply.plain .refusedFault)
  else ({ s with channels := s.channels.set c (s.channels.get c).clearLatch }, Reply.plain .done)

/-- A REARM CHANNEL performed; its channel has passed check 5. -/
def State.performRearm (s : State) (r : Request) : State × Reply :=
  match chanOfNumber (r.operand 0) with
  | some c => s.rearm c
  | none => (s, Reply.plain .badRange)

/-- REARM_CHANNEL (R156). -/
def execRearmChannel (s : State) : Host.Outcome State Fault Refusal :=
  .next (s.request .rearmChannel State.performRearm)

/-- An EXERCISE of a channel (R157): busy while a pulse is in flight on any channel, then refused with the latch
set, then the pulse starts (R72). -/
def State.startExercise (s : State) (c : Chan) (length : Nat) : State × Reply :=
  if allChannels.any fun d => s.pulsing d then (s, Reply.plain .refusedBusy)
  else if (s.channels.get c).latch then (s, Reply.plain .refusedFault)
  else ({ s with channels := s.channels.set c ((s.channels.get c).startPulse length) }, Reply.plain .done)

/-- An EXERCISE performed; its operands have passed check 5. -/
def State.performExercise (s : State) (r : Request) : State × Reply :=
  match chanOfNumber (r.operand 0) with
  | some c => s.startExercise c (r.operand 1)
  | none => (s, Reply.plain .badRange)

/-- EXERCISE (R157). -/
def execExercise (s : State) : Host.Outcome State Fault Refusal :=
  .next (s.request .exercise State.performExercise)

/-! ### LOOP CLEAR (R158) -/

/-- The latch review of Loop Clear: OFF, and the latch stays set only where its input is asserted (R75). -/
def Channel.loopClear (c : Channel) (input : Bool) : Channel := { Channel.reset with latch := c.latch && input }

/-- The Loop Clear values of every block, the attention list emptied (R39, R55, R75, R90, R108, R124, R163,
R178). -/
def State.clearBlocks (s : State) : State :=
  { s with
    mode := .pass
    fallbackCount := 0
    services := s.services.release
    record := none
    lastSequence := none
    reentryCount := 0
    timer := .held
    peerSlip := false
    peerNotReady := false
    notReadyRun := 0
    lastRollSequence := none
    wheels := { left := s.wheels.left.exitValues, right := s.wheels.right.exitValues }
    engaged := false
    peerCap := none
    channels := s.channels.mapIdx fun c channel => channel.loopClear (s.faultInputs.get c)
    attention := [] }

/-- A latch that remains set raises its kind again; it makes no claim (R75). -/
def State.reviewLatch (s : State) (c : Chan) : State :=
  if (s.channels.get c).latch then s.raiseLatch c else s

/-- Loop Clear: every block at its Loop Clear values, then the kinds of the latches that remain set, in channel
order 0 to 4 (R75, R178). -/
def State.loopCleared (s : State) : State :=
  ((((s.clearBlocks.reviewLatch .bk).reviewLatch .li).reviewLatch .lx).reviewLatch .ri).reviewLatch .rx

/-- A LOOP CLEAR performed (R158). -/
def State.performLoopClear (s : State) (_r : Request) : State × Reply := (s.loopCleared, Reply.plain .done)

/-- A LOOP CLEAR by its target (R158): addressed, it is replaced by its reply; broadcast, the frame leaves with this
station's position of the done field set where the checks passed and clear where one failed. -/
def State.handleLoopClear (s : State) (f : Frame) : State × List Byte :=
  let r := Request.ofFrame f
  if r.target = s.station then s.answer .loopClear State.performLoopClear f
  else
    let judged := s.judgeRequest .loopClear State.performLoopClear r
    let done := writePosition r.done s.station (judged.2.status = .done)
    (judged.1, { f with body := f.body.set 8 done }.content)

/-- LOOP_CLEAR (R158). -/
def execLoopClear (s : State) : Host.Outcome State Fault Refusal :=
  .next <| s.take (.request .loopClear) fun e s => s.handleLoopClear (frameOf e)

end Sys2Proof.Machine
end

