-- ==== Sys2Proof/Machine/Reset.lean ====
section
/-! DEFINITION. Device reset (R187, and the device reset values of each chapter). -/

namespace Sys2Proof.Machine

/-- The latch-set event of one channel at device reset, where its input is asserted (R74). -/
def State.resetLatch (s : State) (c : Chan) : State :=
  if s.faultInputs.get c then s.latchSet c else s

/-- The unit after device reset with these straps and fault inputs: every block at its device reset values, then
the latch-set events of the asserted inputs in channel order 0 to 4 (R74, R138, R187). -/
def State.afterReset (straps : Nat) (inputs : PerChan Bool) : State :=
  let s := { State.reset with station := straps, faultInputs := inputs }
  ((((s.resetLatch .bk).resetLatch .li).resetLatch .lx).resetLatch .ri).resetLatch .rx

/-- DEVICE_RESET (R187). The queue of commands is outside the unit and stays (log 12). -/
def execDeviceReset (straps : Nat) (inputs : PerChan Bool) (s : State) : Host.Outcome State Fault Refusal :=
  .next { State.afterReset straps inputs with pending := s.pending }

end Sys2Proof.Machine
end

