-- ==== Sys2Proof/Machine/Roll.lean ====
section
/-! DEFINITION. The Roll Processor (chapter 7). -/

namespace Sys2Proof.Machine

/-- The ROLL body has the right shape (R114). -/
def rollShape (f : Frame) : Bool :=
  4 ≤ f.body.length && f.bodyByte 3 ≤ 6 && f.body.length = 4 + 10 * f.bodyByte 3

/-- The watched positions: the peer mask less this station's own position (R116). -/
def State.watched (s : State) : Byte := s.tables.peerMask &&& ~~~(positionBit s.station)

/-- The watched positions of the ready field that show not ready (R116). -/
def State.showsNotReady (s : State) (ready : Byte) : Byte := s.watched &&& (ready ^^^ s.tables.readySense)

/-- The watched positions of the slip field that show slip (R116). -/
def State.showsSlip (s : State) (slip : Byte) : Byte := s.watched &&& (slip ^^^ s.tables.slipSense)

/-- The not-ready run after a frame (R117). -/
def runAfter (notReady : Bool) (run : Nat) : Nat :=
  if notReady then (if run < 255 then run + 1 else 255) else 0

/-- Steps 1 to 3 of a roll frame but for the raise and claim: the sequence, the peer conditions, the run (R115). -/
def State.evaluatePeers (s : State) (f : Frame) : State :=
  let notReady := s.showsNotReady (f.body.getD 1 0) ≠ 0
  { s with
    lastRollSequence := some (f.body.getD 0 0)
    peerSlip := s.showsSlip (f.body.getD 2 0) ≠ 0
    peerNotReady := notReady
    notReadyRun := runAfter notReady s.notReadyRun }

/-- The modes in which a run of 3 raises and claims (R117). -/
def Mode.claimsPeers : Mode → Bool
  | .armed | .active | .fallback => true
  | .pass | .isolated => false

/-- Steps 1 to 3 (R115 to R117): where the run rises from 2 to 3, PEER_NOT_READY with the lowest not-ready
position, and the claim. -/
def State.rollConditions (s : State) (f : Frame) : State :=
  let t := s.evaluatePeers f
  if s.notReadyRun = 2 && t.notReadyRun = 3 && s.mode.claimsPeers then
    (t.raise .peerNotReady ((lowestPosition (s.showsNotReady (f.body.getD 1 0))).getD 0)).peerNotReadyClaim
  else t

/-- The ready position of this station (R118). -/
def State.ready (s : State) : Bool :=
  (s.mode = .armed || s.mode = .active) && !s.anyLatch && !s.anySenseFault

/-- HOLD or DUMP. -/
def SlipState.slipping : SlipState → Bool
  | .hold _ | .dump _ => true
  | .free | .rebuild _ => false

/-- The slip position of this station (R119). -/
def State.slips (s : State) : Bool :=
  s.mode = .active && (s.wheels.left.slipState.slipping || s.wheels.right.slipState.slipping)

/-- The slot this station appends (R120, R182). -/
def State.slot (s : State) : List Byte :=
  [BitVec.ofNat 8 s.station, BitVec.ofNat 8 s.mode.code, BitVec.ofNat 8 (topKindCode s.attention),
   BitVec.ofNat 8 s.attention.length, BitVec.ofNat 8 s.wheels.left.slipState.code,
   BitVec.ofNat 8 s.wheels.right.slipState.code,
   highByte (numberWord s.wheels.left.measured), lowByte (numberWord s.wheels.left.measured),
   highByte (numberWord s.wheels.right.measured), lowByte (numberWord s.wheels.right.measured)]

/-- The station numbers of the first `n` slots (R182). -/
def slotStations : Nat → List Byte → List Nat
  | 0, _ => []
  | n + 1, slots => (slots.getD 0 0).toNat :: slotStations n (slots.drop 10)

/-- The body with this station's own positions written (R118, R119, R183). -/
def State.writePositions (s : State) (body : List Byte) : List Byte :=
  (body.set 1 (writePosition (body.getD 1 0) s.station s.ready)).set 2
    (writePosition (body.getD 2 0) s.station s.slips)

/-- Step 5 (R120, R121), on the frame with the own positions written: the slot appended, or STATION_CLASH with
detail 0 for a duplicate or 1 for a full list. -/
def State.appendSlot (s : State) (f : Frame) : State × List Byte :=
  let count := f.bodyByte 3
  if (slotStations count (f.body.drop 4)).contains s.station then (s.raise .stationClash 0, f.content)
  else if 6 ≤ count then (s.raise .stationClash 1, f.content)
  else (s, (f.withBody (f.body.set 3 (BitVec.ofNat 8 (count + 1)) ++ s.slot)).content)

/-- A ROLL frame handled (R114, R115). Step 4 and step 5 see the mode as the claim of step 3 left it. -/
def State.handleRoll (s : State) (f : Frame) : State × List Byte :=
  if !rollShape f then (s.raise .frameDamaged 1, f.markDamaged.content)
  else
    let t := s.rollConditions f
    t.appendSlot { f with body := t.writePositions f.body }

/-- ROLL_FRAME (R115). -/
def execRollFrame (s : State) : Host.Outcome State Fault Refusal :=
  .next <| s.take .rollFrame fun e s => s.handleRoll (Frame.ofContent (contentOf e.bytes))

end Sys2Proof.Machine
end

