-- ==== Sys2Proof/Machine/Sampler.lean ====
section
/-! DEFINITION. The Pressure Sampler (chapter 3). -/

namespace Sys2Proof.Machine

/-- A code in the range 51 to 972 is valid (R42). -/
def codeValid (code : Nat) : Bool := 51 ≤ code && code ≤ 972

/-- The pressure of a valid code: truncated once, a negative result is 0, a result above 1000 is 1000 (R42). -/
def codePressure (code : Nat) : Nat := min 1000 ((code - 102) * 1000 / 818)

/-- The sense state after a code (R43 to R45). -/
def senseAfter (code : Nat) : Sense → Sense
  | .ok => if codeValid code then .ok else .suspect1
  | .suspect1 => if codeValid code then .ok else .suspect2
  | .suspect2 => if codeValid code then .ok else .fault 0
  | .fault run => if codeValid code then (if run < 2 then .fault (run + 1) else .ok) else .fault 0

/-- The latest valid pressure after a code: a valid code supplies it outside FAULT, and on the return from FAULT
(R43, R45). -/
def latestAfter (code : Nat) (state : Sense) (latest : Option Nat) : Option Nat :=
  if codeValid code && !(senseAfter code state).isFault then some (codePressure code) else latest

/-- Detail 0 for the left wheel or 1 for the right wheel (R44). -/
def senseDetail : Wheel → Nat
  | .left => 0
  | .right => 1

/-- One wheel's code judged; on entry to FAULT the raise and then the claim (R44). -/
def State.judgeCode (s : State) (wheel : Wheel) (code : Nat) : State :=
  let before := s.sense.get wheel
  let t :=
    { s with
      sense := s.sense.set wheel (senseAfter code before)
      latestValid := s.latestValid.set wheel (latestAfter code before (s.latestValid.get wheel)) }
  if !before.isFault && (senseAfter code before).isFault then
    (t.raise .senseFault (senseDetail wheel)).faultClaim
  else t

/-- SAMPLE (R41): the left wheel's code, then the right wheel's. -/
def execSample (leftCode rightCode : Nat) (s : State) : Host.Outcome State Fault Refusal :=
  .next ((s.judgeCode .left leftCode).judgeCode .right rightCode)

end Sys2Proof.Machine
end

