-- ==== Sys2Proof/Machine/Valves.lean ====
section
/-! DEFINITION. The events of the valve channels (chapter 4). -/

namespace Sys2Proof.Machine

/-! ### Fault inputs (R69, R70) -/

/-- LATCH_SET_EVENT (R69): the channel's fault input asserts. -/
def execLatchSetEvent (channel : Chan) (s : State) : Host.Outcome State Fault Refusal :=
  .next (s.assertInput channel)

/-- FAULT_INPUT_ASSERTED_WHILE_LATCHED (R69): the input asserts again; with the latch still set nothing is raised
and nothing is claimed. -/
def execFaultInputAssertedWhileLatched (channel : Chan) (s : State) : Host.Outcome State Fault Refusal :=
  .next (s.assertInput channel)

/-- FAULT_INPUT_DEASSERTED (R70): the latch is not cleared by it. -/
def execFaultInputDeasserted (channel : Chan) (s : State) : Host.Outcome State Fault Refusal :=
  .next { s with faultInputs := s.faultInputs.set channel false }

/-! ### Counts and period ends (R58, R60, R65) -/

/-- A count on a channel (R58): the phase advances; where it would reach the period, the period end is due. -/
def Channel.count (c : Channel) : Channel :=
  if c.running then
    (if c.phase + 1 < c.period then { c with phase := c.phase + 1 } else { c with due := .periodEnd }).drive
  else c

/-- PHASE_COUNT (R58): every channel in RATIO or in the ENGAGE hold stage. -/
def execPhaseCount (s : State) : Host.Outcome State Fault Refusal :=
  .next { s with channels := s.channels.map Channel.count }

/-- The period end of a channel has come due. -/
def Channel.periodDue (c : Channel) : Bool := c.running && c.due = .periodEnd

/-- A channel over its period end (R60, R65): the output of a new ratio of 0 turns off, the active ratio takes the
pending ratio, which is kept, the phase restarts, and the output is on where the new ratio is above 0 and the
latch is clear. -/
def Channel.endPeriod (c : Channel) : Channel :=
  { c with activeRatio := c.pendingRatio, phase := 0, due := .nothing }.drive

/-- The period end of a pair: both channels in one event (R60). -/
def endPair (inlet exhaust : Channel) : Channel × Channel :=
  if inlet.periodDue && exhaust.periodDue then (inlet.endPeriod, exhaust.endPeriod) else (inlet, exhaust)

/-- PAIR_PERIOD_END (R60). It does not happen on channels whose period is not at its end (R67, R68). -/
def execPairPeriodEnd (pair : Wheel) (s : State) : Host.Outcome State Fault Refusal :=
  .next <|
    match pair with
    | .left =>
      let ended := endPair s.channels.li s.channels.lx
      { s with channels := { s.channels with li := ended.1, lx := ended.2 } }
    | .right =>
      let ended := endPair s.channels.ri s.channels.rx
      { s with channels := { s.channels with ri := ended.1, rx := ended.2 } }

/-- RATIO_ON_TIME_END (R58): the phase has reached the active ratio, and the output is off for the rest of the
period. The count that brought the phase there has re-evaluated the output already (R57, log 15). -/
def execRatioOnTimeEnd (channel : Chan) (s : State) : Host.Outcome State Fault Refusal :=
  let c := s.channels.get channel
  .next <|
    if c.running && c.activeRatio ≤ c.phase then
      { s with channels := s.channels.set channel { c with output := false } }
    else s

/-- BK_PERIOD_END (R65), in the hold stage. -/
def execBkPeriodEnd (s : State) : Host.Outcome State Fault Refusal :=
  .next <|
    if s.channels.bk.periodDue then { s with channels := { s.channels with bk := s.channels.bk.endPeriod } } else s

/-! ### The BK pull-in (R64, R65) -/

/-- A step of the pull-in: pulse remaining decreases by 1; at 0 the completion is due (R64, log 4). -/
def Channel.stepPullIn (c : Channel) : Channel :=
  if c.mode = .engage && 0 < c.pulseRemaining then
    { c with
      pulseRemaining := c.pulseRemaining - 1
      due := if c.pulseRemaining = 1 then .pullIn else c.due }.drive
  else c

/-- PULL_IN_STEP (R64). -/
def execPullInStep (s : State) : Host.Outcome State Fault Refusal :=
  .next { s with channels := { s.channels with bk := s.channels.bk.stepPullIn } }

/-- The completion of a pull-in: the phase starts from 0 and the hold stage begins (R65). -/
def Channel.completePullIn (c : Channel) : Channel :=
  if c.mode = .engage && c.pulseRemaining = 0 && c.due = .pullIn then
    { c with phase := 0, due := .nothing }.drive
  else c

/-- PULL_IN_COMPLETION (R65). After a forced OFF no completion follows. -/
def execPullInCompletion (s : State) : Host.Outcome State Fault Refusal :=
  .next { s with channels := { s.channels with bk := s.channels.bk.completePullIn } }

/-! ### EXERCISE pulses (R72, R73) -/

/-- A step of a pulse: pulse remaining decreases by 1 (R72). -/
def Channel.stepPulse (c : Channel) : Channel :=
  if c.mode = .pulse then { c with pulseRemaining := c.pulseRemaining - 1 } else c

/-- PULSE_STEP (R72): at most one channel is in PULSE (log 18). -/
def execPulseStep (s : State) : Host.Outcome State Fault Refusal :=
  .next { s with channels := s.channels.map Channel.stepPulse }

/-- The completion of a pulse whose remaining has reached 0: the output turns off and the channel goes to OFF
(R72). -/
def Channel.completePulse (c : Channel) : Channel :=
  if c.mode = .pulse && c.pulseRemaining = 0 then c.forceOff else c

/-- PULSE_COMPLETION (R72). After an event that ended the pulse no completion follows (R73). -/
def execPulseCompletion (s : State) : Host.Outcome State Fault Refusal :=
  .next { s with channels := s.channels.map Channel.completePulse }

end Sys2Proof.Machine
end

