-- ==== Sys2Proof/Machine/Dispatch.lean ====
section
/-! DEFINITION. One arm per row of spec/opcode_table.json. -/

namespace Sys2Proof.Machine

def exec (i : Instr) (s : State) : Host.Outcome State Fault Refusal :=
  match i with
  | .deviceReset straps inputs => Sys2Proof.Machine.execDeviceReset straps inputs s
  | .frameStart => Sys2Proof.Machine.execFrameStart s
  | .frameCompletion => Sys2Proof.Machine.execFrameCompletion s
  | .overlongCompletion => Sys2Proof.Machine.execOverlongCompletion s
  | .damagedFrameForward => Sys2Proof.Machine.execDamagedFrameForward s
  | .forwardUnchanged => Sys2Proof.Machine.execForwardUnchanged s
  | .demandFrame => Sys2Proof.Machine.execDemandFrame s
  | .timerStep => Sys2Proof.Machine.execTimerStep s
  | .expiry => Sys2Proof.Machine.execExpiry s
  | .rollFrame => Sys2Proof.Machine.execRollFrame s
  | .manageAddressing => Sys2Proof.Machine.execManageAddressing s
  | .read => Sys2Proof.Machine.execRead s
  | .write => Sys2Proof.Machine.execWrite s
  | .arm => Sys2Proof.Machine.execArm s
  | .disarm => Sys2Proof.Machine.execDisarm s
  | .acknowledge => Sys2Proof.Machine.execAcknowledge s
  | .rearmChannel => Sys2Proof.Machine.execRearmChannel s
  | .exercise => Sys2Proof.Machine.execExercise s
  | .loopClear => Sys2Proof.Machine.execLoopClear s
  | .controlPeriodEvent => Sys2Proof.Machine.execControlPeriodEvent s
  | .toothEdge wheel => Sys2Proof.Machine.execToothEdge wheel s
  | .sample leftCode rightCode => Sys2Proof.Machine.execSample leftCode rightCode s
  | .latchSetEvent channel => Sys2Proof.Machine.execLatchSetEvent channel s
  | .faultInputDeasserted channel => Sys2Proof.Machine.execFaultInputDeasserted channel s
  | .pairPeriodEnd pair => Sys2Proof.Machine.execPairPeriodEnd pair s
  | .ratioOnTimeEnd channel => Sys2Proof.Machine.execRatioOnTimeEnd channel s
  | .bkPeriodEnd => Sys2Proof.Machine.execBkPeriodEnd s
  | .pullInStep => Sys2Proof.Machine.execPullInStep s
  | .pullInCompletion => Sys2Proof.Machine.execPullInCompletion s
  | .pulseStep => Sys2Proof.Machine.execPulseStep s
  | .pulseCompletion => Sys2Proof.Machine.execPulseCompletion s
  | .transmitterTake => Sys2Proof.Machine.execTransmitterTake s
  | .frameSent => Sys2Proof.Machine.execFrameSent s
  | .characterCompletion data stopAtMark => Sys2Proof.Machine.execCharacterCompletion data stopAtMark s
  | .receiverIdle => Sys2Proof.Machine.execReceiverIdle s
  | .phaseCount => Sys2Proof.Machine.execPhaseCount s
  | .faultInputAssertedWhileLatched channel => Sys2Proof.Machine.execFaultInputAssertedWhileLatched channel s

end Sys2Proof.Machine
end

