-- ==== Sys2Proof/Machine/Step.lean ====
section
/-! DEFINITION. One step of the unit: the command at the front of the queue is taken whole (R37, R131, R159). -/

namespace Sys2Proof.Machine

/-- The command at the front of the queue runs on the state with the queue's rest; with nothing waiting the unit
idles (log 3). -/
def step (s : State) : Host.Outcome State Fault Refusal :=
  match s.pending with
  | [] => .next s
  | c :: rest => exec c { s with pending := rest }

/-- The state with the command that the word spells at the front of the queue; no word spells one (log 13). -/
def State.withFetchWord (s : State) (nbits w : Nat) : State :=
  match decodeTableWord nbits w with
  | none => s
  | some c => { s with pending := c :: s.pending }

end Sys2Proof.Machine
end

