-- ==== Sys2Proof/Safety.lean ====
section
/-! DEFINITION. What the manual promises of the unit in every state it can be in, in nine parts, and the words in
which the statements speak of a take, of a request and of a run of commands. -/

namespace Sys2Proof.Machine

/-! ### The attention list -/

/-- The list stands in strict priority order, so each kind has at most one entry (R173); repeat counts are 1 to 255
(R174), and a detail is 0 to 15 (R173). -/
def State.AttentionSound (s : State) : Prop :=
  (s.attention.map fun e => e.kind.code).Pairwise (· < ·) ∧
    ∀ e ∈ s.attention, 1 ≤ e.repeats ∧ e.repeats ≤ 255 ∧ e.detail ≤ 15

/-! ### The frame path -/

/-- An entry holds at most 80 bytes (8.2); a complete one holds a byte, has the kind tag of its first byte (R130), and
is COMPLETE only where R128 finds nothing wrong with it. -/
def RxEntry.Sound (e : RxEntry) : Prop :=
  e.bytes.length ≤ 80 ∧
    ∀ kind ending, e.status = .finished kind ending →
      1 ≤ e.bytes.length ∧ kind = KindTag.ofByte (e.bytes.getD 0 0) ∧ (ending = .complete → e.idleTag = .complete)

/-- The bytes of a frame before its check code: a header at least, and 80 bytes at most with the check code
(R134, 8.4). -/
def contentFits (content : List Byte) : Prop := 4 ≤ content.length ∧ content.length ≤ 78

/-- At most four frames in each queue (R136); at most one entry is in flight, the last, exactly while the receiver
receives (8.2); every frame that waits or is sent fits 80 bytes and is sent with its check code (R134). -/
def State.QueuesSound (s : State) : Prop :=
  s.receiveQueue.length ≤ 4 ∧ s.transmitQueue.length ≤ 4 ∧
    (∀ e ∈ s.receiveQueue, e.Sound) ∧
    (∀ e ∈ s.receiveQueue.dropLast, e.status ≠ .inFlight) ∧
    (s.receiver = .receiving ↔ ∃ e, s.receiveQueue.getLast? = some e ∧ e.status = .inFlight) ∧
    (∀ c ∈ s.transmitQueue, contentFits c) ∧
    (∀ b, s.sending = some b → ∃ c, contentFits c ∧ b = withCheckCode c)

/-! ### The valve channels -/

/-- The output is the one R57 gives; an asserted input has its latch set (R69, R70); a channel with its latch set is
OFF (R69); the record of an OFF channel is all but the latch as after device reset (R67, R76). -/
def Channel.Sound (c : Channel) (input : Bool) : Prop :=
  c.output = c.level ∧ (input = true → c.latch = true) ∧ (c.latch = true → c.mode = .off) ∧
    (c.mode = .off → c = c.forceOff)

def State.ValvesSound (s : State) : Prop :=
  ∀ c, (s.channels.get c).Sound (s.faultInputs.get c)

/-- BK in ENGAGE and the wheel channels in RATIO exactly in ACTIVE; a PULSE, at most one, only in PASS; otherwise
OFF (5.1, R66, R72). -/
def State.ChannelsFollowMode (s : State) : Prop :=
  match s.mode with
  | .active =>
    s.channels.bk.mode = .engage ∧ s.channels.li.mode = .ratio ∧ s.channels.lx.mode = .ratio ∧
      s.channels.ri.mode = .ratio ∧ s.channels.rx.mode = .ratio
  | .pass =>
    (∀ c, (s.channels.get c).mode = .off ∨ (s.channels.get c).mode = .pulse) ∧
      ∀ c d, (s.channels.get c).mode = .pulse → (s.channels.get d).mode = .pulse → c = d
  | .armed | .fallback | .isolated => ∀ c, (s.channels.get c).mode = .off

/-- The two channels of a pair run on one period timing with ratios of at most the period, and never both have a
ratio above 0, held or pending (R53, R60). -/
def PairSound (period : Nat) (inlet exhaust : Channel) : Prop :=
  inlet.period = period ∧ exhaust.period = period ∧ inlet.phase < period ∧ inlet.phase = exhaust.phase ∧
    inlet.due = exhaust.due ∧ inlet.due ≠ .pullIn ∧
    inlet.activeRatio ≤ period ∧ exhaust.activeRatio ≤ period ∧
    inlet.pendingRatio ≤ period ∧ exhaust.pendingRatio ≤ period ∧
    (inlet.activeRatio = 0 ∨ exhaust.activeRatio = 0) ∧ (inlet.pendingRatio = 0 ∨ exhaust.pendingRatio = 0)

/-- BK in ENGAGE at the values in service; in the pull-in its phase is held at 0 (R64, R65). -/
def BackupSound (t : Tables) (c : Channel) : Prop :=
  c.period = t.backupPeriod ∧ c.activeRatio = t.holdRatio ∧ c.pendingRatio = t.holdRatio ∧
    c.phase < t.backupPeriod ∧ c.pulseRemaining ≤ t.pullInLength ∧
    (c.inHold = false → c.phase = 0) ∧ (0 < c.pulseRemaining → c.due = .nothing)

/-- The records of the channels in ACTIVE (R60, R61, R64). -/
def State.PeriodsSound (s : State) : Prop :=
  s.mode = .active →
    PairSound s.tables.wheelPeriod s.channels.li s.channels.lx ∧
      PairSound s.tables.wheelPeriod s.channels.ri s.channels.rx ∧ BackupSound s.tables s.channels.bk

/-! ### The Mode Controller and Demand Admission -/

/-- The timer is HELD exactly in PASS and ISOLATED and never runs above the span (5.1, R103); the count is below the
limit in ARMED, ACTIVE and FALLBACK (R85); in ACTIVE the record is present, no latch is set and both wheels are in
sense state OK (R10, R81). -/
def State.ControllerSound (s : State) : Prop :=
  (s.timer = .held ↔ s.mode = .pass ∨ s.mode = .isolated) ∧
    s.timerRemaining ≤ s.tables.freshnessSpan ∧
    (s.mode = .armed ∨ s.mode = .active ∨ s.mode = .fallback → s.fallbackCount < s.tables.fallbackLimit) ∧
    (s.mode = .active → s.record.isSome = true ∧ s.anyLatch = false ∧ s.anySenseFault = false)

/-! ### The tables in service -/

/-- What ARM judged of the tables (R165 to R168). -/
def TablesFit (t : Tables) : Prop :=
  (∀ i, i < 18 → axleFieldValid t i = true) ∧ (∀ i, i < 8 → slipFieldValid t i = true) ∧
    t.holdThreshold < t.dumpThreshold ∧ t.reapplyThreshold < t.holdThreshold ∧
    (∃ e ∈ t.map.toList, e.demand = true) ∧
    (∀ e ∈ t.load.toList, e.curve.toNat < 4 ∧ 1 ≤ e.factor.toNat) ∧
    ∀ c : Fin 4, curveReferenced t c = true → curveFault t.curves[c] = none

/-- In PASS no table is IN SERVICE; in every other mode the tables of the chain are, and hold what ARM judged
(R163, R170). -/
def State.TablesSound (s : State) : Prop :=
  if s.mode = .pass then
    ∀ name, s.services.of name ≠ .inService
  else
    s.services.axle = .inService ∧ s.services.map = .inService ∧ s.services.load = .inService ∧
      s.services.slip = .inService ∧
      (∀ c : Fin 4, s.services.curves[c] = .inService ↔ curveReferenced s.tables c = true) ∧
      TablesFit s.tables

/-! ### The Wheel Records -/

/-- While the mode is other than ACTIVE the records stand at their exit values, the engaged flag is clear and the
peer cap absent (R39, R55, R17). -/
def State.WheelsFollowMode (s : State) : Prop :=
  s.mode ≠ .active →
    (∀ w, s.wheels.get w = (s.wheels.get w).exitValues) ∧ s.engaged = false ∧ s.peerCap = none

/-- The ranges of R38; the target is at most the ceiling (R14); a DUMP lasts at most the dump limit and a HOLD at
most the hold limit (R26, R27). -/
def WheelRecord.Sound (t : Tables) (w : WheelRecord) : Prop :=
  w.target ≤ t.ceiling ∧ w.measured ≤ 1000 ∧ w.speed ≤ 65279 ∧ w.slip ≤ 1000 ∧ w.stateTime ≤ 65535 ∧
    w.cycleCount ≤ 255 ∧ (if w.speedFault then w.zeroRun = 40 else w.zeroRun < 40) ∧
    (∀ p, w.exhaustionCap = some p → p ≤ 1000) ∧ (∀ p, w.slipState.held? = some p → p ≤ 1000) ∧
    (∀ p, w.slipState.ramp? = some p → p ≤ 1050) ∧
    (∀ p, w.slipState = .dump p → w.stateTime ≤ t.dumpLimit) ∧
    (∀ p, w.slipState = .hold p → w.stateTime ≤ t.holdLimit)

/-- Both records, the tooth counters (R19), the latest valid pressures (R47) and the valid runs (R45) lie in their
ranges. -/
def State.WheelsSound (s : State) : Prop :=
  ∀ w, (s.wheels.get w).Sound s.tables ∧ s.teeth.get w ≤ 255 ∧
    (∀ p, s.latestValid.get w = some p → p ≤ 1000) ∧ (s.sense.get w).validRun ≤ 2

/-- All nine parts. -/
structure State.Sound (s : State) : Prop where
  attention : s.AttentionSound
  queues : s.QueuesSound
  valves : s.ValvesSound
  channels : s.ChannelsFollowMode
  periods : s.PeriodsSound
  controller : s.ControllerSound
  tables : s.TablesSound
  exits : s.WheelsFollowMode
  wheels : s.WheelsSound

/-! ### The words of the statements -/

/-- The entry `e` stands at the head of the Receive Queue before `rest`, complete, and the Transmit Queue has a free
entry (R131). -/
def State.CanTake (s : State) (e : RxEntry) (rest : List RxEntry) : Prop :=
  s.receiveQueue = e :: rest ∧ e.status ≠ .inFlight ∧ s.transmitQueue.length < 4

/-- As `CanTake`, with the end tag COMPLETE (which R128 gives to 6 bytes or more), the damaged mark clear and a source
of 15 or less, so that R133 dispatches the entry by its kind tag. -/
def State.Dispatches (s : State) (kind : KindTag) (e : RxEntry) (rest : List RxEntry) : Prop :=
  s.CanTake e rest ∧ e.status = .finished kind .complete ∧ 6 ≤ e.bytes.length ∧
    (frameOf e).damaged = false ∧ (frameOf e).source.toNat ≤ 15

/-- The end of a take: the frame with this content at the tail of the Transmit Queue, the Receive Queue entry freed
(R131). -/
def State.passOn (s : State) (rest : List RxEntry) (content : List Byte) : State :=
  { s with receiveQueue := rest, transmitQueue := s.transmitQueue ++ [content] }

/-- A MANAGE frame at a valid station with a body of 9 bytes or more, which carries the request `r` (R141). -/
def State.Carries (s : State) (e : RxEntry) (rest : List RxEntry) (r : Request) : Prop :=
  s.Dispatches .manage e rest ∧ stationValid s.station = true ∧ 9 ≤ (frameOf e).body.length ∧
    r = Request.ofFrame (frameOf e)

/-- The end of the take of a request addressed to this station: the reply in the request's place (R149). -/
def State.replyWith (s : State) (e : RxEntry) (rest : List RxEntry) (r : Request) (reply : Reply) : State :=
  s.passOn rest ((frameOf e).reply s.station r.tag reply).content

/-- The code of a request kind (R184). -/
def RequestKind.code : RequestKind → Nat
  | .read => 1
  | .write => 2
  | .arm => 3
  | .disarm => 4
  | .acknowledge => 5
  | .rearmChannel => 6
  | .exercise => 7
  | .loopClear => 8

/-- The command that takes a request of a kind. -/
def RequestKind.command : RequestKind → Instr
  | .read => .read
  | .write => .write
  | .arm => .arm
  | .disarm => .disarm
  | .acknowledge => .acknowledge
  | .rearmChannel => .rearmChannel
  | .exercise => .exercise
  | .loopClear => .loopClear

/-- The request `r` of kind `k` is addressed to this station, its source is admitted, it is well formed, its level
suffices and the mode allows it: checks 1 to 4 pass (9.2). -/
def State.Passes (s : State) (k : RequestKind) (e : RxEntry) (rest : List RxEntry) (r : Request) : Prop :=
  s.Carries e rest r ∧ r.target = s.station ∧ r.kindCode = k.code ∧ s.manageAdmitted r.source = true ∧
    wellFormedRequest k r = true ∧ s.effectiveLevel r ≤ requiredLevel k ∧ modeAllows k s.mode = true

/-- The records as an exit from ACTIVE for `mode` leaves them, with the count and the timer that it leaves: the
channels OFF with their latches kept (R67), the Wheel Records at their exit values (R39), the engaged flag clear, the
peer cap absent (R55), the re-entry count 0 (R83). -/
def State.leftFor (s : State) (mode : Mode) (count : Nat) (timer : Timer) : State :=
  { s with
    mode := mode
    fallbackCount := count
    timer := timer
    channels := s.channels.map fun c => { Channel.reset with latch := c.latch }
    wheels :=
      { left := { WheelRecord.reset with measured := s.wheels.left.measured }
        right := { WheelRecord.reset with measured := s.wheels.right.measured } }
    engaged := false
    peerCap := none
    reentryCount := 0 }

/-- A fallback cause in ACTIVE (R82, R83): ISOLATED where the count now equals the limit, otherwise FALLBACK, in which
the timer keeps running. -/
def State.fallenBack (s : State) : State :=
  if s.fallbackCount + 1 = s.tables.fallbackLimit then s.leftFor .isolated (s.fallbackCount + 1) .held
  else s.leftFor .fallback (s.fallbackCount + 1) s.timer

/-- The service states with every IN SERVICE table LOADED (R163). -/
def Services.released (v : Services) : Services :=
  let loaded := fun x : Service => if x = .inService then .loaded else x
  { axle := loaded v.axle, map := loaded v.map, load := loaded v.load, slip := loaded v.slip
    curves := v.curves.map loaded }

/-- The list after device reset or Loop Clear, where the latches `on` stay set (R178). -/
def latchEntries (on : PerChan Bool) : List AttentionEntry :=
  let wheels := (([.li, .lx, .ri, .rx] : List Chan).filter on.get).map chanNumber
  (if on.bk then [{ kind := .backupFault, detail := 0, repeats := 1, firstSeen := none }] else []) ++
    (if wheels = [] then []
     else [{ kind := .valveFault, detail := wheels.getLast?.getD 0, repeats := wheels.length, firstSeen := none }])

/-- A DEMAND frame that passes checks 1 to 4 of Demand Admission and carries the record `d` (R97 to R100). -/
def State.Admits (s : State) (e : RxEntry) (rest : List RxEntry) (d : DemandRecord) : Prop :=
  s.Dispatches .demand e rest ∧ stationValid s.station = true ∧
    (s.mode = .armed ∨ s.mode = .active ∨ s.mode = .fallback) ∧
    s.services.map ≠ .empty ∧ (∃ a, s.tables.map[d.source.toNat]? = some a ∧ a.demand = true) ∧
    7 ≤ (frameOf e).body.length ∧ d = DemandRecord.ofFrame (frameOf e) ∧
    d.demand.toNat ≤ 1000 ∧ d.reference.toNat ≤ 1500 ∧
    ∀ l, s.lastSequence = some l → 1 ≤ (d.sequence - l).toNat ∧ (d.sequence - l).toNat ≤ 127

/-- The re-entry count after the take of a sequence (R102). -/
def State.reentryWith (s : State) (sequence : Byte) : Nat :=
  match s.lastSequence with
  | none => 1
  | some l => if sequence = l + 1 then min 255 (s.reentryCount + 1) else 1

/-- Steps 1 to 4 of a take (R101). -/
def State.taken (s : State) (d : DemandRecord) : State :=
  { s with
    record := some d
    lastSequence := some d.sequence
    timer := .running s.tables.freshnessSpan
    reentryCount := s.reentryWith d.sequence }

/-- The conditions under which the take of `d` enters ACTIVE: R80 in ARMED, R87 in FALLBACK. -/
def State.Enters (s : State) (d : DemandRecord) : Prop :=
  (s.mode = .armed ∨
      (s.mode = .fallback ∧ 3 ≤ s.reentryWith d.sequence ∧ s.fallbackCount < s.tables.fallbackLimit)) ∧
    d.demand.toNat = 0 ∧ (∀ c, (s.channels.get c).latch = false) ∧ (∀ w, (s.sense.get w).isFault = false) ∧
    (s.tables.soloOption = 1 ∨ s.peerNotReady = false)

/-- The base target of a control period (R9, R12). -/
def State.periodBase (s : State) (d : DemandRecord) : Nat :=
  baseTarget (chainLimited s.tables d) (peerCapAfter s.peerCap s.peerSlip (chainLimited s.tables d))

/-- The stop-end condition (R22). -/
def State.StopEnd (s : State) (d : DemandRecord) : Prop :=
  d.demand.toNat = 0 ∨ d.reference.toNat < s.tables.minimumReference

/-- What a table keeps of a written word (R2, R4, R7, R23, R153). -/
def keptWord : TableName → Word → Word
  | .axle, w | .slip, w | .curve _, w => w
  | .map, w => w &&& 0x0033
  | .load, w => w &&& 0x3FFF

/-- The four protected words (R152). -/
def IsProtected (name : TableName) (offset : Nat) : Prop :=
  (name = .axle ∧ (offset = 1 ∨ offset = 9 ∨ offset = 10)) ∨ (name = .slip ∧ offset = 4)

/-- `i` is the first of the indices below `n` that fails the test (R166 to R168). -/
def FirstFailure (n : Nat) (passes : Nat → Prop) (i : Nat) : Prop := i < n ∧ ¬passes i ∧ ∀ j, j < i → passes j

/-- The ranges in service of the Axle Record fields, by offset (R166). -/
def axleRanges (t : Tables) : List (Nat × Nat) :=
  [(1, 3), (200, 1000), (5, 50), (1, 40), (1, 40), (100, 2000), (100, 2000), (2, 20), (1, t.axle[6].toNat), (5, 50),
    (1, 8), (1, 65535), (1, 65535), (0, 255), (0, 255), (0, 255), (0, 1), (0, 300)]

/-- The ranges in service of the Slip Table fields, by offset (R167). -/
def slipRanges : List (Nat × Nat) :=
  [(20, 400), (40, 600), (10, 300), (20, 200), (10, 100), (20, 200), (1, 50), (4, 48)]

/-- Word `i` lies in range `i`, both ends included (0.6). -/
def WordInRange (ranges : List (Nat × Nat)) (words : List Word) (i : Nat) : Prop :=
  (ranges.getD i (0, 0)).1 ≤ (words.getD i 0).toNat ∧ (words.getD i 0).toNat ≤ (ranges.getD i (0, 0)).2

/-- Some band names the curve (R163). -/
def Tables.Names (t : Tables) (c : Nat) : Prop := ∃ e ∈ t.load.toList, e.curve.toNat = c

/-- The entry of a band names a LOADED curve, with a factor in range (A6, R168). -/
def State.BandFits (s : State) (band : Nat) : Prop :=
  let e := loadEntry s.tables band
  1 ≤ e.factor.toNat ∧ ∃ c : Fin 4, e.curve.toNat = c ∧ s.services.curves[c] = .loaded

/-- The demand of breakpoint place `i` of a curve page: word 1 + 2i (R185). -/
def placeDemand (v : Vector Word 25) (i : Nat) : Nat := (v.toList.getD (1 + 2 * i) 0).toNat

/-- The pressure of breakpoint place `i` of a curve page: word 2 + 2i (R185). -/
def placePressure (v : Vector Word 25) (i : Nat) : Nat := (v.toList.getD (2 + 2 * i) 0).toNat

/-- Breakpoint `i` passes A7 (R168, tests 2 and 3). -/
def BreakpointFits (v : Vector Word 25) (i : Nat) : Prop :=
  if i = 0 then placeDemand v 0 = 0 ∧ placePressure v 0 ≤ 1000
  else
    placeDemand v (i - 1) < placeDemand v i ∧ placeDemand v i ≤ 1000 ∧
      placePressure v (i - 1) ≤ placePressure v i ∧ placePressure v i ≤ 1000

/-- The breakpoint count is one a curve may have (R168, test 1). -/
def CountFits (v : Vector Word 25) : Prop := 2 ≤ v[0].toNat ∧ v[0].toNat ≤ 12

/-- The curve has the shape of R2. -/
def CurveFits (v : Vector Word 25) : Prop := CountFits v ∧ ∀ i, i < v[0].toNat → BreakpointFits v i

/-- The curve fails A7 with this breakpoint part of the index (R168). -/
def CurveFailsAt (v : Vector Word 25) (part : Nat) : Prop :=
  (¬CountFits v ∧ part = 15) ∨ (CountFits v ∧ FirstFailure v[0].toNat (BreakpointFits v) part)

/-- The ROLL body has the right shape (R114). -/
def RollShaped (f : Frame) : Prop :=
  4 ≤ f.body.length ∧ f.bodyByte 3 ≤ 6 ∧ f.body.length = 4 + 10 * f.bodyByte 3

/-- Steps 1 and 2 and the run of step 3 of a ROLL frame (R115 to R117). -/
def State.withPeers (s : State) (f : Frame) : State :=
  { s with
    lastRollSequence := some (f.body.getD 0 0)
    peerSlip := s.showsSlip (f.body.getD 2 0) ≠ 0
    peerNotReady := s.showsNotReady (f.body.getD 1 0) ≠ 0
    notReadyRun := if s.showsNotReady (f.body.getD 1 0) ≠ 0 then min 255 (s.notReadyRun + 1) else 0 }

/-- Steps 1 to 3 of a ROLL frame, with the raise and the claim where the run rises from 2 to 3 (R117, R82). -/
def State.afterPeers (s : State) (f : Frame) : State :=
  let t := s.withPeers f
  if s.notReadyRun = 2 ∧ s.showsNotReady (f.body.getD 1 0) ≠ 0 ∧
      (s.mode = .armed ∨ s.mode = .active ∨ s.mode = .fallback) then
    let raised := t.raise .peerNotReady ((lowestPosition (s.showsNotReady (f.body.getD 1 0))).getD 0)
    if s.mode = .active ∧ s.tables.soloOption = 0 then raised.fallenBack else raised
  else t

/-- The bytes of a ROLL frame with this station's own positions written: the ready field is byte 5, the slip field
byte 6 (R118, R119, R182). -/
def State.positioned (s : State) (content : List Byte) : List Byte :=
  (content.set 5 (writePosition (content.getD 5 0) s.station s.ready)).set 6
    (writePosition (content.getD 6 0) s.station s.slips)

/-- The commands that are takes of the Frame Engine (R131). -/
def takesHead : Instr → Bool
  | .damagedFrameForward | .forwardUnchanged | .demandFrame | .rollFrame | .manageAddressing | .read | .write
  | .arm | .disarm | .acknowledge | .rearmChannel | .exercise | .loopClear => true
  | .deviceReset _ _ | .frameStart | .frameCompletion | .overlongCompletion | .timerStep | .expiry
  | .controlPeriodEvent | .toothEdge _ | .sample _ _ | .latchSetEvent _ | .faultInputDeasserted _
  | .pairPeriodEnd _ | .ratioOnTimeEnd _ | .bkPeriodEnd | .pullInStep | .pullInCompletion | .pulseStep
  | .pulseCompletion | .transmitterTake | .frameSent | .characterCompletion _ _ | .receiverIdle | .phaseCount
  | .faultInputAssertedWhileLatched _ => false

/-- The state after a list of commands, one after the other, or none where one of them stops. -/
def runAll : List Instr → State → Option State
  | [], s => some s
  | c :: rest, s =>
    match exec c s with
    | .next t => runAll rest t
    | .fault _ => none
    | .refused _ => none

end Sys2Proof.Machine
end

