-- ==== Sys2Proof/Certificates/Slice0/Obligations.lean ====
section
/-! DEFINITION. The statements for the provers, in the order of OBLIGATIONS.json. A conclusion `exec c s = .next t`
with `t` written as a change of `s` is result, completion and frame in one: every field that `t` does not name is as it
was in `s`. -/

section Statements

open Sys2Proof Sys2Proof.Machine

/-! ### The step and the reset -/

/-- A step runs the command at the front of the queue on the state with the queue's rest. The last clause, the idle
step, is the model's choice (log 3). -/
def Obligations.StepTakesFront : Prop :=
  (∀ (c : Instr) (s : State), step { s with pending := c :: s.pending } = exec c s) ∧
    ∀ s : State, s.pending = [] → step s = .next s

/-- Every command completes in every state, and leaves the queue as it is. That no event stops the unit is log 17. The
model's choices in it: a command whose event is not due completes without an effect (log 2), a control period in ACTIVE
with no record completes on free values (log 8), and DEVICE_RESET keeps the queue (log 12). -/
def Obligations.CommandsNeverStop : Prop :=
  ∀ (c : Instr) (s : State), ∃ t, exec c s = .next t ∧ t.pending = s.pending

/-- The values that the chapters give for device reset, in State.reset. -/
def Obligations.ResetValues : Prop :=
  State.reset.mode = .pass ∧ State.reset.fallbackCount = 0 ∧
    (∀ name, ∀ w ∈ State.reset.tables.words name, w = 0) ∧
    (∀ name, State.reset.services.of name = .empty) ∧
    State.reset.record = none ∧ State.reset.lastSequence = none ∧ State.reset.reentryCount = 0 ∧
    State.reset.timer = .held ∧ State.reset.timerRemaining = 0 ∧
    State.reset.peerSlip = false ∧ State.reset.peerNotReady = false ∧ State.reset.notReadyRun = 0 ∧
    State.reset.lastRollSequence = none ∧
    State.reset.receiver = .awaitIdle ∧ State.reset.receiveQueue = [] ∧ State.reset.transmitQueue = [] ∧
    State.reset.sending = none ∧
    (∀ w, State.reset.teeth.get w = 0 ∧ State.reset.sense.get w = .ok ∧ State.reset.latestValid.get w = none ∧
      State.reset.wheels.get w = WheelRecord.reset) ∧
    State.reset.engaged = false ∧ State.reset.peerCap = none ∧ State.reset.attention = [] ∧
    ∀ c, (State.reset.channels.get c).mode = .off ∧ (State.reset.channels.get c).output = false ∧
      (State.reset.channels.get c).period = 0 ∧ (State.reset.channels.get c).activeRatio = 0 ∧
      (State.reset.channels.get c).pendingRatio = 0 ∧ (State.reset.channels.get c).phase = 0 ∧
      (State.reset.channels.get c).pulseRemaining = 0

/-- DEVICE_RESET: every block at its device reset values, the station as the straps give it, the latch of each asserted
input set and its kind raised in channel order (R74, R138, R178, R187). That the queue of commands stays is log 12. -/
def Obligations.DeviceResetResult : Prop :=
  ∀ (straps : Nat) (inputs : PerChan Bool) (s : State),
    exec (.deviceReset straps inputs) s = .next
      { State.reset with
        station := straps
        faultInputs := inputs
        channels := inputs.map fun asserted => { Channel.reset with latch := asserted }
        attention := latchEntries inputs
        pending := s.pending }

/-! ### The attention list -/

/-- A raise makes the entry of its kind at its place in priority order, or counts up to 255 with the latest detail;
every other entry and every other field of the unit is kept (R174, R175). -/
def Obligations.RaiseMakesOrCounts : Prop :=
  ∀ (s : State) (k : AttentionKind) (detail : Nat), s.AttentionSound →
    entryOf k (s.raise k detail).attention = some
        (match entryOf k s.attention with
        | none => { kind := k, detail := detail, repeats := 1, firstSeen := s.lastRollSequence }
        | some e => { e with detail := detail, repeats := min 255 (e.repeats + 1) }) ∧
      (∀ k', k' ≠ k → entryOf k' (s.raise k detail).attention = entryOf k' s.attention) ∧
      ((s.raise k detail).attention.map fun e => e.kind.code).Pairwise (· < ·) ∧
      s.raise k detail = { s with attention := (s.raise k detail).attention }

/-! ### The frame path -/

/-- FRAME_START, after idle: a free entry is reserved at the tail, or QUEUE_OVERRUN is raised with detail 0 and the
frame is ignored until idle (R127). With no idle seen before there is no frame start (R126, log 2). -/
def Obligations.FrameStartResult : Prop :=
  ∀ s : State,
    (s.receiver = .ready → s.receiveQueue.length < 4 →
      exec .frameStart s = .next
        { s with
          receiver := .receiving
          receiveQueue := s.receiveQueue ++ [{ bytes := [], framingFailed := false, status := .inFlight }] }) ∧
    (s.receiver = .ready → 4 ≤ s.receiveQueue.length →
      exec .frameStart s = .next { s.raise .queueOverrun 0 with receiver := .ignoring }) ∧
    (s.receiver ≠ .ready → exec .frameStart s = .next s)

/-- CHARACTER_COMPLETION and RECEIVER_IDLE (R126, R127): a character is stored in the entry in flight, a stop bit at the
space level being remembered; outside a frame, and with 80 bytes held, it is ignored (log 10); idle ends the waiting and
the ignoring. That RECEIVER_IDLE changes nothing where no such idle is due, while receiving or ready, is the model's
choice (log 2): the idle that ends a frame is FRAME_COMPLETION. -/
def Obligations.CharacterAndIdleResult : Prop :=
  (∀ (s : State) (front : List RxEntry) (e : RxEntry) (data : Byte) (stopAtMark : Bool),
    s.receiver = .receiving → s.receiveQueue = front ++ [e] → e.status = .inFlight → e.bytes.length < 80 →
      exec (.characterCompletion data stopAtMark) s = .next
        { s with
          receiveQueue := front ++
            [{ e with bytes := e.bytes ++ [data], framingFailed := e.framingFailed || !stopAtMark }] }) ∧
  (∀ (s : State) (front : List RxEntry) (e : RxEntry) (data : Byte) (stopAtMark : Bool),
    s.receiver = .receiving → s.receiveQueue = front ++ [e] → e.status = .inFlight → 80 ≤ e.bytes.length →
      exec (.characterCompletion data stopAtMark) s = .next s) ∧
  (∀ (s : State) (data : Byte) (stopAtMark : Bool),
    s.receiver ≠ .receiving → exec (.characterCompletion data stopAtMark) s = .next s) ∧
  ∀ s : State,
    exec .receiverIdle s = .next
      (if s.receiver = .awaitIdle ∨ s.receiver = .ignoring then { s with receiver := .ready } else s)

/-- FRAME_COMPLETION and OVERLONG_COMPLETION: the end tag by the rows of R128, the kind tag by R130. -/
def Obligations.FrameEndResult : Prop :=
  ∀ (s : State) (front : List RxEntry) (e : RxEntry),
    s.receiver = .receiving → s.receiveQueue = front ++ [e] → e.status = .inFlight →
      let n := e.bytes.length
      let kind : KindTag :=
        if e.bytes.getD 0 0 = 1 then .demand else if e.bytes.getD 0 0 = 2 then .roll
        else if e.bytes.getD 0 0 = 3 then .manage else if e.bytes.getD 0 0 = 4 then .reply else .other
      let wrong : Prop :=
        e.framingFailed = true ∨ n < 6 ∨
          ((e.bytes.getD 1 0).getLsbD 0 = false ∧ n ≠ 6 + (e.bytes.getD 3 0).toNat) ∨
          wordOf (e.bytes.getD (n - 2) 0) (e.bytes.getD (n - 1) 0) ≠ checkCode (e.bytes.take (n - 2))
      (1 ≤ n → wrong → exec .frameCompletion s = .next
        { s with receiver := .ready, receiveQueue := front ++ [{ e with status := .finished kind .damaged }] }) ∧
      (1 ≤ n → ¬wrong → exec .frameCompletion s = .next
        { s with receiver := .ready, receiveQueue := front ++ [{ e with status := .finished kind .complete }] }) ∧
      (n = 80 → exec .overlongCompletion s = .next
        { s with receiver := .ignoring, receiveQueue := front ++ [{ e with status := .finished kind .overlong }] })

/-- The head waits while it is in flight or the Transmit Queue is full, and with no head there is nothing to take: the
Frame Engine's commands then change nothing (R131). -/
def Obligations.HeadWaits : Prop :=
  ∀ (c : Instr) (s : State), takesHead c = true →
    (s.receiveQueue = [] ∨ (∃ e rest, s.receiveQueue = e :: rest ∧ e.status = .inFlight) ∨
      4 ≤ s.transmitQueue.length) →
    exec c s = .next s

/-- A DAMAGED or OVERLONG entry is forwarded marked, with FRAME_DAMAGED detail 1 or 2 and all but the place of the check
code (6 to 80 bytes), the first 4 bytes (4 or 5), or the bytes with zero bytes to 4 (fewer); a COMPLETE entry that
carries the damaged mark is forwarded unchanged, and nothing is raised (R132). -/
def Obligations.DamagedForwardResult : Prop :=
  (∀ (s : State) (e : RxEntry) (rest : List RxEntry) (kind : KindTag) (ending : EndTag),
    s.CanTake e rest → e.status = .finished kind ending → ending ≠ .complete →
      let kept := if 6 ≤ e.bytes.length then e.bytes.take (e.bytes.length - 2)
        else if 4 ≤ e.bytes.length then e.bytes.take 4
        else e.bytes ++ List.replicate (4 - e.bytes.length) 0
      exec .damagedFrameForward s = .next
        ((s.raise .frameDamaged (if ending = .overlong then 2 else 1)).passOn rest
          (kept.set 1 (kept.getD 1 0 ||| 1)))) ∧
  ∀ (s : State) (e : RxEntry) (rest : List RxEntry) (kind : KindTag),
    s.CanTake e rest → e.status = .finished kind .complete → (frameOf e).damaged = true →
      exec .forwardUnchanged s = .next (s.passOn rest (contentOf e.bytes))

/-- A COMPLETE frame with the mark clear that R133 dispatches to no block is forwarded unchanged: a source above 15, a
REPLY, another kind, and at station 0 or 7 a ROLL or MANAGE frame (R133). -/
def Obligations.ForwardUnchangedResult : Prop :=
  ∀ (s : State) (e : RxEntry) (rest : List RxEntry) (kind : KindTag),
    s.CanTake e rest → e.status = .finished kind .complete → (frameOf e).damaged = false →
      (15 < (frameOf e).source.toNat ∨ kind = .reply ∨ kind = .other ∨
        (stationValid s.station = false ∧ (kind = .roll ∨ kind = .manage))) →
      exec .forwardUnchanged s = .next (s.passOn rest (contentOf e.bytes))

/-- TRANSMITTER_TAKE and FRAME_SENT: the head of the Transmit Queue with its check code computed, high byte first, while
nothing is being sent; a frame being sent is not disturbed (R134). -/
def Obligations.TransmitterResult : Prop :=
  (∀ (s : State) (content : List Byte) (rest : List (List Byte)),
    s.sending = none → s.transmitQueue = content :: rest →
      exec .transmitterTake s = .next
        { s with
          sending := some (content ++ [highByte (checkCode content), lowByte (checkCode content)])
          transmitQueue := rest }) ∧
  (∀ s : State, s.sending ≠ none ∨ s.transmitQueue = [] → exec .transmitterTake s = .next s) ∧
  ∀ s : State, exec .frameSent s = .next { s with sending := none }

/-- Every content of 4 to 78 bytes whose length agrees with its body length, or that carries the damaged mark, is
received COMPLETE when it is sent: its characters, taken one by one after a frame start and before idle by a receiver
with a free entry, give a COMPLETE entry with those bytes (R126 to R130, R134); and the transmitter gives to
the content of an entry that ended COMPLETE the very bytes that were received, check code included (R135). -/
def Obligations.SentFrameIsReceivedComplete : Prop :=
  (∀ e : RxEntry, e.idleTag = .complete → withCheckCode (contentOf e.bytes) = e.bytes) ∧
  ∀ (s : State) (content : List Byte),
    s.receiver = .ready → s.receiveQueue.length < 4 → contentFits content →
    ((content.getD 1 0).getLsbD 0 = false → content.length = 4 + (content.getD 3 0).toNat) →
      runAll (.frameStart :: ((withCheckCode content).map fun b => Instr.characterCompletion b true) ++
          [.frameCompletion]) s =
        some
          { s with
            receiveQueue := s.receiveQueue ++
              [{ bytes := withCheckCode content, framingFailed := false
                 status := .finished (KindTag.ofByte (content.getD 0 0)) .complete }] }

/-- The formats say one thing in both directions: frames, words as bytes, map and load words (R180, R182, R185), and
the codes of kinds, requests and channels (R184, R1). -/
def Obligations.FormatsAgree : Prop :=
  (∀ f : Frame, Frame.ofContent f.content = f) ∧
  (∀ c : List Byte, 4 ≤ c.length → (Frame.ofContent c).content = c) ∧
  (∀ ws : List Word, wordsOfBytes (bytesOfWords ws) = ws) ∧
  (∀ w : Word, wordOf (highByte w) (lowByte w) = w) ∧
  (∀ a : AdmissionEntry, AdmissionEntry.ofWord a.word = a) ∧
  (∀ l : LoadEntry, LoadEntry.ofWord l.word = l) ∧
  (∀ w : Word, (AdmissionEntry.ofWord w).word = w &&& 0x0033 ∧ (LoadEntry.ofWord w).word = w &&& 0x3FFF) ∧
  (∀ k : AttentionKind, AttentionKind.ofCode k.code = some k) ∧
  (∀ k : RequestKind, RequestKind.ofCode k.code = some k) ∧
  ∀ c : Chan, chanOfNumber (chanNumber c) = some c

/-! ### Demand Admission and the Freshness Timer -/

/-- A demand taken that enters no mode: the record, the last sequence, the preset and the re-entry count (R101, R102),
in ACTIVE, and in ARMED and FALLBACK where a condition of R80 or R87 fails; the frame goes on unchanged. -/
def Obligations.DemandTakenResult : Prop :=
  ∀ (s : State) (e : RxEntry) (rest : List RxEntry) (d : DemandRecord),
    s.Admits e rest d → ¬s.Enters d →
      exec .demandFrame s = .next ((s.taken d).passOn rest (contentOf e.bytes))

/-- The take that enters ACTIVE, from ARMED by R80 and from FALLBACK by R87: BK in ENGAGE with a full pull-in, the wheel
channels in RATIO at ratio 0, the engaged flag clear (R61, R64, R81). -/
def Obligations.EntryToActiveResult : Prop :=
  ∀ (s : State) (e : RxEntry) (rest : List RxEntry) (d : DemandRecord),
    s.Admits e rest d → s.Enters d → 0 < s.tables.pullInLength →
      let wheel : Channel :=
        { mode := .ratio, period := s.tables.wheelPeriod, activeRatio := 0, pendingRatio := 0, phase := 0
          latch := false, pulseRemaining := 0, output := false, due := .nothing }
      let backup : Channel :=
        { mode := .engage, period := s.tables.backupPeriod, activeRatio := s.tables.holdRatio
          pendingRatio := s.tables.holdRatio, phase := 0, latch := false
          pulseRemaining := s.tables.pullInLength, output := true, due := .nothing }
      exec .demandFrame s = .next
        ({ s.taken d with
            mode := .active
            engaged := false
            channels := { bk := backup, li := wheel, lx := wheel, ri := wheel, rx := wheel } }.passOn rest
          (contentOf e.bytes))

/-- A DEMAND frame that is not taken, by the first of checks 1 to 4 that fails: no effect in PASS, in ISOLATED and at
stations 0 and 7; SOURCE_REFUSED; FRAME_DAMAGED with detail 3; no effect for a sequence that is not newer. The frame
goes on unchanged in every case (R96 to R100). -/
def Obligations.DemandNotTakenResult : Prop :=
  ∀ (s : State) (e : RxEntry) (rest : List RxEntry), s.Dispatches .demand e rest →
    let f := frameOf e
    let d := DemandRecord.ofFrame f
    let judged := stationValid s.station = true ∧ (s.mode = .armed ∨ s.mode = .active ∨ s.mode = .fallback)
    let admitted := s.services.map ≠ .empty ∧ ∃ a, s.tables.map[f.source.toNat]? = some a ∧ a.demand = true
    let valid := 7 ≤ f.body.length ∧ d.demand.toNat ≤ 1000 ∧ d.reference.toNat ≤ 1500
    (¬judged → exec .demandFrame s = .next (s.passOn rest (contentOf e.bytes))) ∧
    (judged → ¬admitted → exec .demandFrame s = .next
      ((s.raise .sourceRefused f.source.toNat).passOn rest (contentOf e.bytes))) ∧
    (judged → admitted → ¬valid → exec .demandFrame s = .next
      ((s.raise .frameDamaged 3).passOn rest (contentOf e.bytes))) ∧
    ∀ l, judged → admitted → valid → s.lastSequence = some l →
      (d.sequence - l).toNat = 0 ∨ 127 < (d.sequence - l).toNat →
        exec .demandFrame s = .next (s.passOn rest (contentOf e.bytes))

/-- TIMER_STEP (R103) and TOOTH_EDGE (R19): a RUNNING timer decreases by 1, a HELD one does not count; a tooth counter
stops at 255. That a timer at 0 waits there for its EXPIRY is log 4. -/
def Obligations.CountersResult : Prop :=
  (∀ (s : State) (r : Nat), s.timer = .running r →
    exec .timerStep s = .next { s with timer := .running (r - 1) }) ∧
  (∀ s : State, s.timer = .held → exec .timerStep s = .next s) ∧
  ∀ (s : State) (w : Wheel),
    exec (.toothEdge w) s = .next { s with teeth := s.teeth.set w (min 255 (s.teeth.get w + 1)) }

/-- EXPIRY: DEMAND_LOST with the mode code, the preset, the re-entry count 0, the last sequence none, and in ACTIVE the
fallback cause (R82, R105). No expiry happens while the timer is HELD or above 0 (R91, R104). -/
def Obligations.ExpiryResult : Prop :=
  ∀ s : State,
    let lost :=
      { s.raise .demandLost s.mode.code with
        timer := .running s.tables.freshnessSpan, reentryCount := 0, lastSequence := none }
    (s.timer = .running 0 → s.mode ≠ .active → exec .expiry s = .next lost) ∧
    (s.timer = .running 0 → s.mode = .active → exec .expiry s = .next lost.fallenBack) ∧
    (s.timer ≠ .running 0 → exec .expiry s = .next s)

/-! ### Roll frames -/

/-- The positions of a ROLL frame: what the watched positions show (R116), what this station writes and that it writes
no other (R118, R119, R183), the lowest position of a field (R117), and the bytes of its slot (R120, R182). -/
def Obligations.PositionRules : Prop :=
  (∀ (s : State) (field : Byte) (n : Nat), n < 8 →
    ((s.showsNotReady field).getLsbD n = true ↔
      n ≠ s.station ∧ s.tables.peerMask.getLsbD n = true ∧ field.getLsbD n ≠ s.tables.readySense.getLsbD n) ∧
    ((s.showsSlip field).getLsbD n = true ↔
      n ≠ s.station ∧ s.tables.peerMask.getLsbD n = true ∧ field.getLsbD n ≠ s.tables.slipSense.getLsbD n)) ∧
  (∀ (field : Byte) (n m : Nat) (value : Bool), n < 8 → m < 8 →
    (writePosition field n value).getLsbD m = if m = n then value else field.getLsbD m) ∧
  (∀ (field : Byte) (n : Nat), lowestPosition field = some n ↔
    n < 8 ∧ field.getLsbD n = true ∧ ∀ m, m < n → field.getLsbD m = false) ∧
  ∀ s : State,
    (s.ready = true ↔ (s.mode = .armed ∨ s.mode = .active) ∧ (∀ c, (s.channels.get c).latch = false) ∧
      ∀ w, (s.sense.get w).isFault = false) ∧
    (s.slips = true ↔ s.mode = .active ∧ ∃ w p,
      (s.wheels.get w).slipState = .hold p ∨ (s.wheels.get w).slipState = .dump p) ∧
    s.slot =
      [BitVec.ofNat 8 s.station, BitVec.ofNat 8 s.mode.code,
        BitVec.ofNat 8 (s.attention.head?.elim 0 fun entry => entry.kind.code),
        BitVec.ofNat 8 s.attention.length, BitVec.ofNat 8 s.wheels.left.slipState.code,
        BitVec.ofNat 8 s.wheels.right.slipState.code,
        highByte (numberWord s.wheels.left.measured), lowByte (numberWord s.wheels.left.measured),
        highByte (numberWord s.wheels.right.measured), lowByte (numberWord s.wheels.right.measured)]

/-- ROLL_FRAME: a malformed frame is marked damaged and FRAME_DAMAGED raised with detail 1 (R114); otherwise the peer
conditions, the run with its raise and claim, the own positions, and the slot appended or STATION_CLASH raised with
detail 0 or 1 (R115 to R121). Byte 3 of the frame is the body length, byte 7 the slot count (R180, R182). -/
def Obligations.RollFrameResult : Prop :=
  ∀ (s : State) (e : RxEntry) (rest : List RxEntry),
    s.Dispatches .roll e rest → stationValid s.station = true →
      let f := frameOf e
      let content := contentOf e.bytes
      let count := f.bodyByte 3
      let t := s.afterPeers f
      let duplicate := ∃ k, k < count ∧ (content.getD (8 + 10 * k) 0).toNat = s.station
      (¬RollShaped f → exec .rollFrame s = .next
        ((s.raise .frameDamaged 1).passOn rest (content.set 1 (content.getD 1 0 ||| 1)))) ∧
      (RollShaped f → duplicate → exec .rollFrame s = .next
        ((t.raise .stationClash 0).passOn rest (t.positioned content))) ∧
      (RollShaped f → ¬duplicate → count = 6 → exec .rollFrame s = .next
        ((t.raise .stationClash 1).passOn rest (t.positioned content))) ∧
      (RollShaped f → ¬duplicate → count < 6 → exec .rollFrame s = .next
        (t.passOn rest
          ((((t.positioned content).set 3 (BitVec.ofNat 8 (f.body.length + 10))).set 7
            (BitVec.ofNat 8 (count + 1))) ++ t.slot)))

/-! ### Requests -/

/-- MANAGE_ADDRESSING: a body shorter than 9 bytes is marked damaged and raised; a target that is another station or
none, and a broadcast of another kind than LOOP CLEAR, go on unchanged (R141, R142; that a target of 16 to 255 does so is
the model's choice, log 24); an unknown kind addressed to this station is answered by check 1 or check 2 (R143 to R145;
log 19). -/
def Obligations.ManageAddressingResult : Prop :=
  ∀ (s : State) (e : RxEntry) (rest : List RxEntry),
    s.Dispatches .manage e rest → stationValid s.station = true →
      let f := frameOf e
      let r := Request.ofFrame f
      let content := contentOf e.bytes
      (f.body.length < 9 → exec .manageAddressing s = .next
        ((s.raise .frameDamaged 1).passOn rest (content.set 1 (content.getD 1 0 ||| 1)))) ∧
      (9 ≤ f.body.length → r.target ≠ s.station → ¬(r.target = 15 ∧ r.kindCode = 8) →
        exec .manageAddressing s = .next (s.passOn rest content)) ∧
      (9 ≤ f.body.length → r.target = s.station → r.kindCode = 0 ∨ 8 < r.kindCode →
        exec .manageAddressing s = .next
          (if s.manageAdmitted r.source = true then s.replyWith e rest r (Reply.plain .badRequest)
          else (s.raise .sourceRefused r.source).replyWith e rest r (Reply.plain .refusedSource)))

/-- What checks 1 to 5 ask: admission by the map (R144), the form of a request (R145), the effective level and the
level required (R146), the modes (R147), and the page, range and operands (R148); and the reply that takes the request's
place (R149, R182, R184). -/
def Obligations.RequestChecks : Prop :=
  (∀ (s : State) (source : Nat), s.manageAdmitted source = true ↔
    s.services.map = .empty ∨ ∃ a, s.tables.map[source]? = some a ∧ a.manage = true) ∧
  (∀ (s : State) (r : Request), s.services.map = .empty → s.effectiveLevel r = r.level) ∧
  (∀ (s : State) (r : Request) (a : AdmissionEntry), s.services.map ≠ .empty →
    s.tables.map[r.source]? = some a → s.effectiveLevel r = max r.level a.ceiling.toNat) ∧
  (∀ (k : RequestKind) (r : Request), wellFormedRequest k r = true ↔
    r.level ≤ 3 ∧ r.count ≤ 32 ∧
      (k = .read → r.bodyLength = 9 ∧ (r.readMode = 0 ∨ r.readMode = 1)) ∧
      (k = .write → r.bodyLength = 9 + 2 * r.count) ∧
      (k = .acknowledge ∨ k = .rearmChannel → r.count = 1 ∧ r.bodyLength = 11) ∧
      (k = .exercise → r.count = 2 ∧ r.bodyLength = 13) ∧
      (k = .arm ∨ k = .disarm ∨ k = .loopClear → r.count = 0 ∧ r.bodyLength = 9)) ∧
  (∀ k : RequestKind, requiredLevel k =
    if k = .read then 3 else if k = .acknowledge then 2 else if k = .exercise then 0 else 1) ∧
  (∀ (k : RequestKind) (m : Mode), modeAllows k m = true ↔
    (k = .write ∨ k = .arm ∨ k = .exercise → m = .pass)) ∧
  (∀ r : Request,
    let isPage := r.page ≤ 4 ∨ (8 ≤ r.page ∧ r.page ≤ 14)
    let isTable := (1 ≤ r.page ∧ r.page ≤ 4) ∨ (8 ≤ r.page ∧ r.page ≤ 11)
    let size :=
      if r.page = 0 then 16 else if r.page = 1 then 18 else if r.page = 2 then 16 else if r.page ≤ 4 then 8
      else if r.page ≤ 11 then 25 else if r.page = 12 then 24 else if r.page = 13 then 30 else 34
    operandFailure .read r =
      (if ¬isPage then some .badPage
      else if size < (if r.readMode = 0 then r.offset + r.count else r.offset) then some .badRange else none) ∧
    operandFailure .write r =
      (if ¬isTable then some .badPage else if size < r.offset + r.count then some .badRange else none) ∧
    operandFailure .acknowledge r = (if 1 ≤ r.operand 0 ∧ r.operand 0 ≤ 11 then none else some .badRange) ∧
    operandFailure .rearmChannel r = (if r.operand 0 ≤ 4 then none else some .badRange) ∧
    operandFailure .exercise r =
      (if r.operand 0 ≤ 4 ∧ 1 ≤ r.operand 1 ∧ r.operand 1 ≤ 200 then none else some .badRange) ∧
    operandFailure .arm r = none ∧ operandFailure .disarm r = none ∧ operandFailure .loopClear r = none) ∧
  (∀ (f : Frame) (station : Nat) (tag : Byte) (reply : Reply),
    (f.reply station tag reply).content =
      [4, f.flags, f.source, BitVec.ofNat 8 (6 + 2 * reply.words.length), tag, BitVec.ofNat 8 reply.status.code,
        highByte (numberWord reply.detail), lowByte (numberWord reply.detail), BitVec.ofNat 8 station,
        BitVec.ofNat 8 reply.words.length] ++ bytesOfWords reply.words) ∧
  ([.done, .partialWrite, .refusedSource, .refusedAuthority, .refusedMode, .refusedBusy, .refusedFault, .badRequest,
      .badPage, .badRange, .checkFailed, .stillPresent] : List Status).map Status.code = List.range 12

/-- A request addressed to this station that fails one of checks 1 to 5 is answered with the status of the first that
fails, and changes nothing, but that check 1 raises SOURCE_REFUSED (R143, R144, R148). -/
def Obligations.RefusedRequestChangesNothing : Prop :=
  ∀ (k : RequestKind) (s : State) (e : RxEntry) (rest : List RxEntry) (r : Request),
    s.Carries e rest r → r.target = s.station → r.kindCode = k.code →
      (s.manageAdmitted r.source = false → exec k.command s = .next
        ((s.raise .sourceRefused r.source).replyWith e rest r (Reply.plain .refusedSource))) ∧
      (s.manageAdmitted r.source = true → wellFormedRequest k r = false → exec k.command s = .next
        (s.replyWith e rest r (Reply.plain .badRequest))) ∧
      (s.manageAdmitted r.source = true → wellFormedRequest k r = true →
        requiredLevel k < s.effectiveLevel r → exec k.command s = .next
          (s.replyWith e rest r (Reply.plain .refusedAuthority))) ∧
      (s.manageAdmitted r.source = true → wellFormedRequest k r = true →
        s.effectiveLevel r ≤ requiredLevel k → modeAllows k s.mode = false → exec k.command s = .next
          (s.replyWith e rest r (Reply.plain .refusedMode))) ∧
      (s.Passes k e rest r → ∀ status, operandFailure k r = some status → exec k.command s = .next
        (s.replyWith e rest r (Reply.plain status)))

/-- READ: DONE with the words of the page from the offset, exactly count of them COUNTED, up to the current length
TO_END; nothing else changes (R150). -/
def Obligations.ReadResult : Prop :=
  ∀ (s : State) (e : RxEntry) (rest : List RxEntry) (r : Request) (p : Page),
    s.Passes .read e rest r → Page.ofNumber r.page = some p →
      (r.readMode = 0 → r.offset + r.count ≤ p.length → exec .read s = .next
        (s.replyWith e rest r
          { status := .done, detail := 0, words := ((s.pageWords p).drop r.offset).take r.count })) ∧
      (r.readMode = 1 → r.offset ≤ p.length → exec .read s = .next
        (s.replyWith e rest r
          { status := .done, detail := 0
            words := ((s.pageWords p).take (min (r.offset + r.count) (s.currentLength p))).drop r.offset }))

/-- The pages have the lengths of R148; an unknown number is no page; every page's
words, with the codes of R184 and the places of the tables' fields, and the current lengths are as R185 and R150 give
them; page 14 ends in zeros (R150, R186). -/
def Obligations.PageMapRules : Prop :=
  ([.pass, .armed, .active, .fallback, .isolated] : List Mode).map Mode.code = [0, 1, 2, 3, 4] ∧
  (∀ p, SlipState.free.code = 0 ∧ (SlipState.hold p).code = 1 ∧ (SlipState.dump p).code = 2 ∧
    (SlipState.rebuild p).code = 3) ∧
  ([.off, .ratio, .engage, .pulse] : List ChannelMode).map ChannelMode.code = [0, 1, 2, 3] ∧
  (∀ run, [Sense.ok, .suspect1, .suspect2, .fault run].map Sense.code = [0, 1, 2, 3]) ∧
  ([.empty, .loaded, .inService] : List Service).map Service.code = [0, 1, 2] ∧
  ([.backupFault, .valveFault, .senseFault, .demandLost, .peerNotReady, .speedFault, .slipExhausted, .stationClash,
      .queueOverrun, .frameDamaged, .sourceRefused] : List AttentionKind).map AttentionKind.code =
    [1, 2, 3, 4, 5, 6, 7, 8, 9, 10, 11] ∧
  ([.bk, .li, .lx, .ri, .rx] : List Chan).map chanNumber = [0, 1, 2, 3, 4] ∧
  (∀ n, Page.ofNumber n = none ↔ (5 ≤ n ∧ n ≤ 7) ∨ 15 ≤ n) ∧
  (∀ (s : State) (p : Page), (s.pageWords p).length = p.length) ∧
  (∀ s : State, s.pageWords .identity =
    [0x00B7, 0x0418, 0x0001, numberWord s.station, numberWord s.mode.code,
      numberWord (s.services.axle.code + 4 * s.services.map.code + 16 * s.services.load.code +
        64 * s.services.slip.code + 256 * s.services.curves[0].code + 1024 * s.services.curves[1].code +
        4096 * s.services.curves[2].code + 16384 * s.services.curves[3].code),
      numberWord s.fallbackCount, numberWord s.reentryCount] ++
    (match s.record with
      | none => [0, 0, 0, 0, 0]
      | some d => [1, wordOf d.source d.sequence, d.demand, d.reference, wordOf d.band d.retarder]) ++
    [(match s.lastSequence with
      | none => 0
      | some q => wordOf 1 q),
      numberWord ((if s.peerSlip then 1 else 0) + (if s.peerNotReady then 2 else 0)), numberWord s.notReadyRun]) ∧
  (∀ s : State,
    s.pageWords (.table .axle) = s.tables.axle.toList ∧ s.pageWords (.table .slip) = s.tables.slip.toList ∧
    (∀ c : Fin 4, s.pageWords (.table (.curve c)) = s.tables.curves[c].toList) ∧
    s.pageWords (.table .map) = s.tables.map.toList.map (fun e => numberWord
      ((if e.demand then 1 else 0) + (if e.manage then 2 else 0) + 16 * e.ceiling.toNat)) ∧
    s.pageWords (.table .load) = s.tables.load.toList.map (fun e => numberWord
      (e.curve.toNat + 16 * e.factor.toNat + 4096 * e.shift.toNat))) ∧
  (∀ t : Tables,
    [t.axleRole, t.ceiling, t.deadband, t.applyGain, t.releaseGain, t.wheelPeriod, t.backupPeriod, t.pullInLength,
      t.holdRatio, t.freshnessSpan, t.fallbackLimit, t.wheelFactor .left, t.wheelFactor .right] =
      (t.axle.toList.take 13).map BitVec.toNat ∧
    [t.peerMask, t.readySense, t.slipSense] = ((t.axle.toList.drop 13).take 3).map lowByte ∧
    [t.soloOption, t.retarderCredit] = (t.axle.toList.drop 16).map BitVec.toNat ∧
    [t.holdThreshold, t.dumpThreshold, t.reapplyThreshold, t.minimumReference, t.dumpLimit, t.holdLimit,
      t.rebuildStep, t.cycleLimit] = t.slip.toList.map BitVec.toNat) ∧
  (∀ (s : State) (c : Fin 4), s.currentLength (.table (.curve c)) =
    min 25 (1 + 2 * (s.tables.curves[c])[0].toNat)) ∧
  (∀ s : State, s.currentLength .attention = 1 + 3 * s.attention.length) ∧
  (∀ (s : State) (i : Nat), i < 34 → 1 + 3 * s.attention.length ≤ i → (s.pageWords .attention)[i]? = some 0) ∧
  (∀ (s : State) (w : Wheel),
    let record := s.wheels.get w
    let bit := fun (b : Bool) (value : Nat) => if b then value else 0
    ((s.pageWords .wheels).drop (if w = .left then 0 else 12)).take 12 =
      [record.slipState.code, record.speed, record.slip, record.measured, record.target,
        record.slipState.held?.getD 0, record.slipState.ramp?.getD 0, record.stateTime, record.cycleCount,
        record.exhaustionCap.getD 0,
        bit record.clipped 1 + bit record.speedFault 2 + bit record.slipState.held?.isSome 4 +
          bit record.slipState.ramp?.isSome 8 + bit record.exhaustionCap.isSome 16 + bit s.engaged 32,
        256 * record.zeroRun + (s.sense.get w).code].map numberWord) ∧
  (∀ (s : State) (c : Chan),
    let channel := s.channels.get c
    ((s.pageWords .channels).drop (6 * chanNumber c)).take 6 =
      [channel.mode.code + (if channel.latch then 256 else 0) + (if channel.output then 512 else 0),
        channel.period, channel.activeRatio, channel.pendingRatio, channel.phase,
        channel.pulseRemaining].map numberWord) ∧
  ∀ s : State, (s.pageWords .attention)[0]? = some (numberWord s.attention.length) ∧
    ∀ (i : Nat) (h : i < s.attention.length), s.attention.length ≤ 11 →
      ((s.pageWords .attention).drop (1 + 3 * i)).take 3 =
        [numberWord (256 * s.attention[i].kind.code + s.attention[i].detail), numberWord s.attention[i].repeats,
          (match s.attention[i].firstSeen with
            | none => 0
            | some q => wordOf 1 q)]

/-- WRITE: data word k at offset + k in what its table keeps of it, but a protected word at a level other than 0; every
other word as it was; the table LOADED; DONE, or PARTIAL with the number of protected words carried; and a WRITE of
page 2 below level 0 refused with no change (R151 to R153). -/
def Obligations.WriteResult : Prop :=
  ∀ (s : State) (e : RxEntry) (rest : List RxEntry) (r : Request) (name : TableName),
    s.Passes .write e rest r → Page.ofNumber r.page = some (.table name) →
    r.offset + r.count ≤ (Page.table name).length →
      (name = .map → s.effectiveLevel r ≠ 0 →
        exec .write s = .next (s.replyWith e rest r (Reply.plain .refusedAuthority))) ∧
      ((name ≠ .map ∨ s.effectiveLevel r = 0) → ∃ tables : Tables,
        let carried := ((List.range r.count).filter fun k => protectedWord name (r.offset + k)).length
        exec .write s = .next
          ({ s with tables := tables, services := s.services.put name .loaded }.replyWith e rest r
            (if s.effectiveLevel r ≠ 0 ∧ 0 < carried then
              { status := .partialWrite, detail := carried, words := [] }
            else Reply.plain .done)) ∧
        (∀ other, other ≠ name → tables.words other = s.tables.words other) ∧
        ∀ i, i < (Page.table name).length → (tables.words name)[i]? =
          if r.offset ≤ i ∧ i < r.offset + r.count ∧ ¬(s.effectiveLevel r ≠ 0 ∧ protectedWord name i = true) then
            some (keptWord name (r.data.getD (i - r.offset) 0))
          else (s.tables.words name)[i]?) ∧
      ∀ i, protectedWord name i = true ↔ IsProtected name i

/-- ARM where A1 to A10 pass: ARMED with count 0, the tables of the chain IN SERVICE, Demand Admission and the peer
conditions cleared, the timer preset and RUNNING (R79, R163, R170). -/
def Obligations.ArmResult : Prop :=
  ∀ (s : State) (e : RxEntry) (rest : List RxEntry) (r : Request),
    s.Passes .arm e rest r → entryOf .stationClash s.attention = none →
    s.services.axle = .loaded → s.services.map = .loaded → s.services.load = .loaded → s.services.slip = .loaded →
    (∀ c : Fin 4, curveReferenced s.tables c = true → s.services.curves[c] = .loaded) → TablesFit s.tables →
    (∀ c, (s.channels.get c).mode ≠ .pulse ∧ (s.channels.get c).latch = false) →
    (∀ w, (s.sense.get w).isFault = false) →
      ∃ services : Services,
        exec .arm s = .next
          ({ s with
              mode := .armed, fallbackCount := 0, services := services, record := none, lastSequence := none
              reentryCount := 0, timer := .running s.tables.freshnessSpan
              peerSlip := false, peerNotReady := false, notReadyRun := 0 }.replyWith e rest r
            (Reply.plain .done)) ∧
        services.axle = .inService ∧ services.map = .inService ∧ services.load = .inService ∧
        services.slip = .inService ∧
        ∀ c : Fin 4, services.curves[c] =
          if curveReferenced s.tables c then .inService else s.services.curves[c]

/-- ARM where a check fails: CHECK_FAILED with the check number x 256 + the index of the first of A1 to A10 that fails,
and no change (R164); and when each check fails, and with which index (R165 to R169). -/
def Obligations.ArmRefusedResult : Prop :=
  (∀ (s : State) (e : RxEntry) (rest : List RxEntry) (r : Request) (detail : Nat),
    s.Passes .arm e rest r → s.armFailure = some detail →
      exec .arm s = .next (s.replyWith e rest r { status := .checkFailed, detail := detail, words := [] })) ∧
  (∀ s : State,
    let results := [s.checkA1, s.checkA2, s.checkA3, s.checkA4, s.checkA5, s.checkA6, s.checkA7, s.checkA8, s.checkA9,
      s.checkA10]
    (∀ n index, results[n]? = some (some index) → (∀ m, m < n → results[m]? = some none) →
      s.armFailure = some ((n + 1) * 256 + index)) ∧
    ((∀ result ∈ results, result = none) → s.armFailure = none)) ∧
  ∀ s : State,
    let t := s.tables
    let axleInRange := WordInRange (axleRanges t) t.axle.toList
    let slipInRange := WordInRange slipRanges t.slip.toList
    let pulse := fun c => (s.channels.get c).mode = .pulse
    let latch := fun c => (s.channels.get c).latch = true
    (s.checkA1 = if 1 ≤ s.station ∧ s.station ≤ 6 then none else some 0) ∧
    (s.checkA2 = if ∃ entry ∈ s.attention, entry.kind = .stationClash then some 0 else none) ∧
    (s.services.axle ≠ .loaded → s.checkA3 = some 255) ∧
    (s.services.axle = .loaded →
      (∀ i, FirstFailure 18 axleInRange i → s.checkA3 = some i) ∧
      ((∀ i, i < 18 → axleInRange i) → s.checkA3 = none)) ∧
    (s.checkA4 = if s.services.map ≠ .loaded then some 255
      else if ∃ a ∈ t.map.toList, a.demand = true then none else some 16) ∧
    (s.services.slip ≠ .loaded → s.checkA5 = some 255) ∧
    (s.services.slip = .loaded →
      (∀ i, FirstFailure 8 slipInRange i → s.checkA5 = some i) ∧
      ((∀ i, i < 8 → slipInRange i) → s.checkA5 =
        if t.slip[1].toNat ≤ t.slip[0].toNat then some 1
        else if t.slip[0].toNat ≤ t.slip[2].toNat then some 2
        else none)) ∧
    (s.services.load ≠ .loaded → s.checkA6 = some 255) ∧
    (s.services.load = .loaded →
      (∀ band, FirstFailure 8 s.BandFits band → s.checkA6 = some band) ∧
      ((∀ band, band < 8 → s.BandFits band) → s.checkA6 = none)) ∧
    (∀ (c : Fin 4) (part : Nat), t.Names c → CurveFailsAt t.curves[c] part →
      (∀ d : Fin 4, d < c → t.Names d → CurveFits t.curves[d]) → s.checkA7 = some (16 * c + part)) ∧
    ((∀ c : Fin 4, t.Names c → CurveFits t.curves[c]) → s.checkA7 = none) ∧
    (∀ c, pulse c → (∀ d, chanNumber d < chanNumber c → ¬pulse d) → s.checkA8 = some (chanNumber c)) ∧
    ((∀ c, ¬pulse c) → s.checkA8 = none) ∧
    (∀ c, latch c → (∀ d, chanNumber d < chanNumber c → ¬latch d) → s.checkA9 = some (chanNumber c)) ∧
    ((∀ c, ¬latch c) → s.checkA9 = none) ∧
    (s.checkA10 = if s.sense.left.isFault then some 0 else if s.sense.right.isFault then some 1 else none)

/-- DISARM: nothing in PASS; otherwise PASS with the count kept, every channel OFF, the tables in service LOADED, the
timer HELD and the re-entry count 0, and from ACTIVE the leaving act (R83, R89, R109). Always DONE (R154). -/
def Obligations.DisarmResult : Prop :=
  ∀ (s : State) (e : RxEntry) (rest : List RxEntry) (r : Request), s.Passes .disarm e rest r →
    (s.mode = .pass → exec .disarm s = .next (s.replyWith e rest r (Reply.plain .done))) ∧
    (s.mode = .active → exec .disarm s = .next
      ({ s.leftFor .pass s.fallbackCount .held with services := s.services.released }.replyWith e rest r
        (Reply.plain .done))) ∧
    (s.mode = .armed ∨ s.mode = .fallback ∨ s.mode = .isolated → exec .disarm s = .next
      ({ s with
          mode := .pass, services := s.services.released, timer := .held, reentryCount := 0
          channels := s.channels.map fun c : Channel => { Channel.reset with latch := c.latch } }.replyWith e rest r
        (Reply.plain .done)))

/-- ACKNOWLEDGE: kept with STILL_PRESENT while the pending cause holds, otherwise removed with DONE, with DONE where
there is no entry (R155); the causes are those of R177. -/
def Obligations.AcknowledgeResult : Prop :=
  (∀ (s : State) (e : RxEntry) (rest : List RxEntry) (r : Request) (k : AttentionKind),
    s.Passes .acknowledge e rest r → r.operand 0 = k.code →
      ((∃ entry ∈ s.attention, entry.kind = k) → s.causeHolds k = true → exec .acknowledge s = .next
        (s.replyWith e rest r (Reply.plain .stillPresent))) ∧
      ((∃ entry ∈ s.attention, entry.kind = k) → s.causeHolds k = false → exec .acknowledge s = .next
        ({ s with attention := s.attention.filter fun entry => entry.kind ≠ k }.replyWith e rest r
          (Reply.plain .done))) ∧
      ((∀ entry ∈ s.attention, entry.kind ≠ k) → exec .acknowledge s = .next
        (s.replyWith e rest r (Reply.plain .done)))) ∧
  ∀ s : State,
    (s.causeHolds .backupFault = true ↔ s.channels.bk.latch = true) ∧
    (s.causeHolds .valveFault = true ↔ ∃ c, c ≠ .bk ∧ (s.channels.get c).latch = true) ∧
    (s.causeHolds .senseFault = true ↔ ∃ w, (s.sense.get w).isFault = true) ∧
    (s.causeHolds .peerNotReady = true ↔ 3 ≤ s.notReadyRun) ∧
    (s.causeHolds .speedFault = true ↔ ∃ w, (s.wheels.get w).speedFault = true) ∧
    ∀ k, k = .demandLost ∨ k = .slipExhausted ∨ k = .stationClash ∨ k = .queueOverrun ∨ k = .frameDamaged ∨
      k = .sourceRefused → s.causeHolds k = false

/-- REARM CHANNEL: REFUSED_FAULT with the latch kept while the fault input is asserted, otherwise DONE with the latch
clear and nothing else changed (R70, R156). -/
def Obligations.RearmResult : Prop :=
  ∀ (s : State) (e : RxEntry) (rest : List RxEntry) (r : Request) (c : Chan),
    s.Passes .rearmChannel e rest r → s.ValvesSound → r.operand 0 = chanNumber c →
      (s.faultInputs.get c = true → exec .rearmChannel s = .next
        (s.replyWith e rest r (Reply.plain .refusedFault))) ∧
      (s.faultInputs.get c = false → exec .rearmChannel s = .next
        ({ s with channels := s.channels.set c { s.channels.get c with latch := false } }.replyWith e rest r
          (Reply.plain .done)))

/-- EXERCISE: REFUSED_BUSY while a pulse is in flight on any channel, REFUSED_FAULT with the latch set, otherwise the
PULSE of the length given, its output on (R72, R157). -/
def Obligations.ExerciseResult : Prop :=
  ∀ (s : State) (e : RxEntry) (rest : List RxEntry) (r : Request) (c : Chan),
    s.Passes .exercise e rest r → r.operand 0 = chanNumber c → 1 ≤ r.operand 1 → r.operand 1 ≤ 200 →
      ((∃ d, (s.channels.get d).mode = .pulse) → exec .exercise s = .next
        (s.replyWith e rest r (Reply.plain .refusedBusy))) ∧
      ((∀ d, (s.channels.get d).mode ≠ .pulse) → (s.channels.get c).latch = true → exec .exercise s = .next
        (s.replyWith e rest r (Reply.plain .refusedFault))) ∧
      ((∀ d, (s.channels.get d).mode ≠ .pulse) → (s.channels.get c).latch = false → exec .exercise s = .next
        ({ s with
            channels := s.channels.set c
              { mode := .pulse, period := 0, activeRatio := 0, pendingRatio := 0, phase := 0, latch := false
                pulseRemaining := r.operand 1, output := true, due := .nothing } }.replyWith e rest r
          (Reply.plain .done)))

/-- LOOP_CLEAR, addressed and broadcast: every block at its Loop Clear values, a latch kept only where its input is
asserted and its kind raised again; a REPLY to an addressed request, this station's position of the done field in a
broadcast, clear where a check failed (R75, R90, R158, R178). Byte 12 of the frame is the done field (R182). -/
def Obligations.LoopClearResult : Prop :=
  ∀ (s : State) (e : RxEntry) (rest : List RxEntry) (r : Request),
    let kept : PerChan Bool := s.channels.mapIdx fun c (channel : Channel) => channel.latch && s.faultInputs.get c
    let cleared : State :=
      { s.leftFor .pass 0 .held with
        services := s.services.released
        record := none
        lastSequence := none
        peerSlip := false
        peerNotReady := false
        notReadyRun := 0
        lastRollSequence := none
        channels := kept.map fun latch => { Channel.reset with latch := latch }
        attention := latchEntries kept }
    let position := fun done : Bool =>
      (contentOf e.bytes).set 12 (writePosition ((contentOf e.bytes).getD 12 0) s.station done)
    (s.Passes .loopClear e rest r →
      exec .loopClear s = .next (cleared.replyWith e rest r (Reply.plain .done))) ∧
    (s.Carries e rest r → r.target = 15 → r.kindCode = 8 →
      (s.manageAdmitted r.source = false → exec .loopClear s = .next
        ((s.raise .sourceRefused r.source).passOn rest (position false))) ∧
      (s.manageAdmitted r.source = true →
        wellFormedRequest .loopClear r = false ∨ 1 < s.effectiveLevel r →
          exec .loopClear s = .next (s.passOn rest (position false))) ∧
      (s.manageAdmitted r.source = true → wellFormedRequest .loopClear r = true → s.effectiveLevel r ≤ 1 →
        exec .loopClear s = .next (cleared.passOn rest (position true))))

/-! ### The control period -/

/-- CONTROL_PERIOD_EVENT outside ACTIVE: the tooth counts taken and discarded, the latest valid pressures copied, 0
where there is none, and nothing more (R49). -/
def Obligations.ControlPeriodOutsideActive : Prop :=
  ∀ s : State, s.mode ≠ .active →
    exec .controlPeriodEvent s = .next
      { s with
        teeth := { left := 0, right := 0 }
        wheels :=
          { left := { s.wheels.left with measured := s.latestValid.left.getD 0 }
            right := { s.wheels.right with measured := s.latestValid.right.getD 0 } } }

/-- CONTROL_PERIOD_EVENT in ACTIVE: it completes, and writes only the tooth counts, the Wheel Records, the engaged flag,
the peer cap, pending ratios and the attention list (R50); the measured pressure (R47), the engaged flag (R51) and the
peer cap (R12); and what it raises, left before right (R30, R32, R36). -/
def Obligations.ControlPeriodInActive : Prop :=
  ∀ (s : State) (d : DemandRecord), s.mode = .active → s.record = some d →
    ∃ t, exec .controlPeriodEvent s = .next t ∧
      t = { s with
            teeth := { left := 0, right := 0 }, wheels := t.wheels, engaged := t.engaged, peerCap := t.peerCap
            channels := t.channels, attention := t.attention } ∧
      (∀ w, (t.wheels.get w).measured = (s.latestValid.get w).getD 0) ∧
      t.engaged = (s.engaged || s.channels.bk.inHold) ∧
      t.peerCap =
        (if s.peerSlip then
          match s.peerCap with
          | none => some (chainLimited s.tables d)
          | some cap => some cap
        else none) ∧
      t.channels.bk = s.channels.bk ∧
      (let entersFault := fun w => (s.wheels.get w).speedFault = false ∧ (t.wheels.get w).speedFault = true
       let exhausts := fun w =>
        (t.wheels.get w).slipState.code = 2 ∧ (s.wheels.get w).slipState.code ≠ 2 ∧
          (s.wheels.get w).cycleCount < (t.wheels.get w).cycleCount ∧
          (t.wheels.get w).cycleCount = s.tables.cycleLimit
       let raisedLeft := fun u : State =>
        let v := if entersFault .left then u.raise .speedFault 0 else u
        if exhausts .left then v.raise .slipExhausted 0 else v
       let raisedRight := fun u : State =>
        let v := if entersFault .right then u.raise .speedFault 1 else u
        if exhausts .right then v.raise .slipExhausted 1 else v
       t.attention = (raisedRight (raisedLeft s)).attention)

/-- The chain: the retarder credit (R8), the load band (R5), the scaling (R6), and the order of R9, in which the curve of
the band's entry is looked up at the demand used and scaled by that entry, then the ceiling and the peer cap. -/
def Obligations.ChainRules : Prop :=
  (∀ (t : Tables) (d : DemandRecord), demandUsed t d =
    if d.retarder ≠ 0 ∧ t.axleRole = 2 then d.demand.toNat - t.retarderCredit else d.demand.toNat) ∧
  (∀ (t : Tables) (band : Nat) (h : band < 8), loadEntry t band = t.load[band]) ∧
  (∀ (t : Tables) (band : Nat), 8 ≤ band → loadEntry t band = t.load[7]) ∧
  (∀ curve factor : Nat,
    scaledPressure curve factor 0 = curve * factor / 64 ∧ scaledPressure curve factor 1 = curve * factor / 128 ∧
      scaledPressure curve factor 2 = curve * factor / 256 ∧
      scaledPressure curve factor 3 = curve * factor / 512) ∧
  (∀ (t : Tables) (d : DemandRecord),
    let e := loadEntry t d.band.toNat
    chainScaled t d =
      scaledPressure (curvePressure t e.curve.toNat (demandUsed t d)) e.factor.toNat e.shift.toNat) ∧
  (∀ (t : Tables) (d : DemandRecord), chainLimited t d = min (chainScaled t d) t.ceiling) ∧
  ∀ (s : State) (d : DemandRecord),
    s.periodBase d =
      if s.peerSlip then
        match s.peerCap with
        | none => chainLimited s.tables d
        | some cap => min (chainLimited s.tables d) cap
      else chainLimited s.tables d

/-- The breakpoints in use of a curve page are its first count places, place i with the demand of word 1 + 2i and the
pressure of word 2 + 2i (R2, R185). The lookup in a well-shaped list of breakpoints: the last pressure from the last
demand on, the breakpoint's own pressure at its demand, and between two demands the interpolation truncated once (R3). -/
def Obligations.CurveLookupRule : Prop :=
  (∀ v : Vector Word 25, (breakpoints v).length = min v[0].toNat 12 ∧
    ∀ i, i < v[0].toNat → i < 12 → (breakpoints v)[i]? = some (placeDemand v i, placePressure v i)) ∧
  ∀ (points : List (Nat × Nat)) (x i : Nat) (h : i < points.length),
    points.Pairwise (fun a b => a.1 < b.1 ∧ a.2 ≤ b.2) → points[i].1 ≤ x →
      (i + 1 = points.length → lookup points x = some points[i].2) ∧
      ∀ h' : i + 1 < points.length, x < points[i + 1].1 →
        lookup points x = some
          (points[i].2 + (points[i + 1].2 - points[i].2) * (x - points[i].1) /
            (points[i + 1].1 - points[i].1)) ∧
        points[i].2 ≤ points[i].2 + (points[i + 1].2 - points[i].2) * (x - points[i].1) /
            (points[i + 1].1 - points[i].1) ∧
        points[i].2 + (points[i + 1].2 - points[i].2) * (x - points[i].1) /
            (points[i + 1].1 - points[i].1) ≤ points[i + 1].2

/-- With the tables that ARM has passed, the lookup of every band's curve gives a pressure of at most 1000 kPa at every
demand: the free value of log 9 is never met (R3, R10, R168). -/
def Obligations.CurveInServiceAlwaysGives : Prop :=
  ∀ (t : Tables) (band x : Nat), TablesFit t →
    ∃ (h : (loadEntry t band).curve.toNat < 4) (y : Nat),
      lookup (breakpoints t.curves[(loadEntry t band).curve.toNat]) x = some y ∧ y ≤ 1000 ∧
        curvePressure t (loadEntry t band).curve.toNat x = y

/-- The speed (R20), the speed fault machine (R31, R32, R34) and the slip (R21, R33) of each wheel at a control period
in ACTIVE. -/
def Obligations.SpeedAndSlipRules : Prop :=
  ∀ (s t : State) (d : DemandRecord) (x : Wheel), s.mode = .active → s.record = some d →
    exec .controlPeriodEvent s = .next t →
      let old := s.wheels.get x
      let new := t.wheels.get x
      let teeth := s.teeth.get x
      let reference := d.reference.toNat
      let run := if teeth = 0 ∧ 150 ≤ reference then old.zeroRun + 1 else 0
      new.speed = teeth * s.tables.wheelFactor x / 256 ∧
      (old.speedFault = false → new.zeroRun = run ∧ (new.speedFault = true ↔ 40 ≤ run)) ∧
      (old.speedFault = true → 1 ≤ teeth → new.zeroRun = 0 ∧ new.speedFault = false) ∧
      (old.speedFault = true → teeth = 0 → new.zeroRun = old.zeroRun ∧ new.speedFault = true) ∧
      new.slip =
        if new.speedFault = true ∨ reference < s.tables.minimumReference ∨ reference ≤ new.speed then 0
        else (reference - new.speed) * 1000 / reference

/-- The slip states: stop end and speed FAULT give FREE (R22, R33), otherwise one transition by the rows of R25 to R28,
read from the top. -/
def Obligations.SlipStateRules : Prop :=
  ∀ (s t : State) (d : DemandRecord) (x : Wheel), s.mode = .active → s.record = some d →
    exec .controlPeriodEvent s = .next t →
      let old := s.wheels.get x
      let new := t.wheels.get x
      let m := (s.latestValid.get x).getD 0
      let moves := ¬s.StopEnd d ∧ new.speedFault = false
      (s.StopEnd d ∨ new.speedFault = true → new.slipState = .free) ∧
      (moves → old.slipState = .free → new.slipState =
        if s.tables.dumpThreshold ≤ new.slip then .dump m
        else if s.tables.holdThreshold ≤ new.slip then .hold m
        else .free) ∧
      (∀ p, moves → old.slipState = .hold p → new.slipState =
        if s.tables.dumpThreshold ≤ new.slip then .dump p
        else if new.slip < s.tables.reapplyThreshold ∨ s.tables.holdLimit ≤ old.stateTime then .rebuild m
        else .hold p) ∧
      (∀ p, moves → old.slipState = .dump p → new.slipState =
        if new.slip < s.tables.holdThreshold ∨ s.tables.dumpLimit ≤ old.stateTime then .hold m
        else .dump p) ∧
      ∀ p, moves → old.slipState = .rebuild p → new.slipState =
        if s.tables.holdThreshold ≤ new.slip then .hold m
        else if s.periodBase d ≤ p then .free
        else .rebuild (p + s.tables.rebuildStep)

/-- The state time (R24), the cycle count (R22, R29) and the exhaustion cap (R22, R30) of each wheel. -/
def Obligations.SlipCountRules : Prop :=
  ∀ (s t : State) (d : DemandRecord) (x : Wheel), s.mode = .active → s.record = some d →
    exec .controlPeriodEvent s = .next t →
      let old := s.wheels.get x
      let new := t.wheels.get x
      let entersDump := (∃ p, new.slipState = .dump p) ∧ ∀ p, old.slipState ≠ .dump p
      (new.slipState.code = old.slipState.code → new.stateTime = min 65535 (old.stateTime + 1)) ∧
      (new.slipState.code ≠ old.slipState.code → new.stateTime = 1) ∧
      (s.StopEnd d → new.cycleCount = 0 ∧ new.exhaustionCap = none) ∧
      (¬s.StopEnd d → entersDump → new.cycleCount = min 255 (old.cycleCount + 1)) ∧
      (¬s.StopEnd d → entersDump → old.cycleCount < new.cycleCount → new.cycleCount = s.tables.cycleLimit →
        new.exhaustionCap = new.slipState.held?) ∧
      (¬s.StopEnd d → entersDump → ¬(old.cycleCount < new.cycleCount ∧ new.cycleCount = s.tables.cycleLimit) →
        new.exhaustionCap = old.exhaustionCap) ∧
      (¬s.StopEnd d → ¬entersDump →
        new.cycleCount = old.cycleCount ∧ new.exhaustionCap = old.exhaustionCap)

/-- The target pressure and the clipped flag of each wheel (R11, R13, R14). -/
def Obligations.TargetRules : Prop :=
  ∀ (s t : State) (d : DemandRecord) (x : Wheel), s.mode = .active → s.record = some d →
    exec .controlPeriodEvent s = .next t →
      let new := t.wheels.get x
      let base := s.periodBase d
      let stateValue :=
        match new.slipState with
        | .free => base
        | .hold p => p
        | .dump _ => 0
        | .rebuild p => min p base
      let capped :=
        match new.exhaustionCap with
        | none => stateValue
        | some cap => min stateValue cap
      new.target = min capped s.tables.ceiling ∧
        (new.clipped = true ↔ s.tables.ceiling < chainScaled s.tables d ∨ s.tables.ceiling < capped)

/-- The pending ratios of each wheel at a control period in ACTIVE, by the table of R53 with the engaged flag set and 0
with it clear (R52); a channel that runs no periods keeps none (R59); nothing else of a channel changes (R54). -/
def Obligations.RatioRules : Prop :=
  ∀ (s t : State) (d : DemandRecord), s.mode = .active → s.record = some d →
    exec .controlPeriodEvent s = .next t →
      let inlet := fun w : WheelRecord =>
        if t.engaged = false then 0
        else
          match w.slipState with
          | .dump _ => 0
          | .hold _ => 0
          | .free | .rebuild _ =>
            if w.target > w.measured + s.tables.deadband then
              min s.tables.wheelPeriod ((w.target - w.measured) * s.tables.applyGain)
            else 0
      let exhaust := fun w : WheelRecord =>
        if t.engaged = false then 0
        else
          match w.slipState with
          | .dump _ => s.tables.wheelPeriod
          | .hold _ => 0
          | .free | .rebuild _ =>
            if w.measured > w.target + s.tables.deadband then
              min s.tables.wheelPeriod ((w.measured - w.target) * s.tables.releaseGain)
            else 0
      let written := fun (c : Channel) (ratio : Nat) => if c.running then { c with pendingRatio := ratio } else c
      t.channels.li = written s.channels.li (inlet t.wheels.left) ∧
      t.channels.lx = written s.channels.lx (exhaust t.wheels.left) ∧
      t.channels.ri = written s.channels.ri (inlet t.wheels.right) ∧
      t.channels.rx = written s.channels.rx (exhaust t.wheels.right)

/-! ### The sampler -/

/-- A code of 51 to 972 is valid and gives (code - 102) x 1000 / 818, truncated once, 0 below and 1000 above; the sense
state and the latest valid pressure follow the tables of R43 to R45 (R42 to R45). -/
def Obligations.CodeRules : Prop :=
  (∀ code, codeValid code = true ↔ 51 ≤ code ∧ code ≤ 972) ∧
  (∀ code, code ≤ 102 → codePressure code = 0) ∧
  (∀ code, 102 ≤ code → code ≤ 920 → codePressure code = (code - 102) * 1000 / 818) ∧
  (∀ code, 920 ≤ code → codePressure code = 1000) ∧
  (∀ (code : Nat) (latest : Option Nat), codeValid code = true →
    (∀ st, st = .ok ∨ st = .suspect1 ∨ st = .suspect2 →
      senseAfter code st = .ok ∧ latestAfter code st latest = some (codePressure code)) ∧
    (∀ run, run < 2 →
      senseAfter code (.fault run) = .fault (run + 1) ∧ latestAfter code (.fault run) latest = latest) ∧
    senseAfter code (.fault 2) = .ok ∧ latestAfter code (.fault 2) latest = some (codePressure code)) ∧
  ∀ (code : Nat) (latest : Option Nat), codeValid code = false →
    senseAfter code .ok = .suspect1 ∧ senseAfter code .suspect1 = .suspect2 ∧
      senseAfter code .suspect2 = .fault 0 ∧ (∀ run, senseAfter code (.fault run) = .fault 0) ∧
      ∀ st, latestAfter code st latest = latest

/-- SAMPLE: both codes judged; a wheel that enters FAULT raises SENSE_FAULT, the left before the right, and its claim
is a fallback cause in ACTIVE, once (R41, R44, R82, R92). -/
def Obligations.SampleResult : Prop :=
  ∀ (s : State) (leftCode rightCode : Nat),
    let enters := fun (code : Nat) (before : Sense) => before = .suspect2 ∧ codeValid code = false
    let judged : State :=
      { s with
        sense :=
          { left := senseAfter leftCode s.sense.left, right := senseAfter rightCode s.sense.right }
        latestValid :=
          { left := latestAfter leftCode s.sense.left s.latestValid.left
            right := latestAfter rightCode s.sense.right s.latestValid.right } }
    let leftRaised := if enters leftCode s.sense.left then judged.raise .senseFault 0 else judged
    let raised := if enters rightCode s.sense.right then leftRaised.raise .senseFault 1 else leftRaised
    exec (.sample leftCode rightCode) s = .next
      (if s.mode = .active ∧ (enters leftCode s.sense.left ∨ enters rightCode s.sense.right) then raised.fallenBack
      else raised)

/-! ### The valve channels -/

/-- LATCH_SET_EVENT: the channel OFF with its latch set, BACKUP_FAULT or VALVE_FAULT raised, and the claim: a fallback
cause in ACTIVE for a wheel channel, ISOLATED from ARMED, ACTIVE and FALLBACK for BK, and otherwise no change of mode
(R69, R82, R84). FAULT_INPUT_ASSERTED_WHILE_LATCHED and FAULT_INPUT_DEASSERTED: the input's level and nothing else,
nothing raised, nothing claimed, the latch kept (R69, R70). -/
def Obligations.FaultInputsResult : Prop :=
  (∀ (s : State) (c : Chan), (s.channels.get c).latch = true →
    exec (.faultInputAssertedWhileLatched c) s = .next { s with faultInputs := s.faultInputs.set c true }) ∧
  (∀ (s : State) (c : Chan),
    exec (.faultInputDeasserted c) s = .next { s with faultInputs := s.faultInputs.set c false }) ∧
  ∀ (s : State) (c : Chan), (s.channels.get c).latch = false →
    let off : State :=
      { s with
        faultInputs := s.faultInputs.set c true
        channels := s.channels.set c { Channel.reset with latch := true } }
    let raised := if c = .bk then off.raise .backupFault 0 else off.raise .valveFault (chanNumber c)
    (s.mode = .pass ∨ s.mode = .isolated → exec (.latchSetEvent c) s = .next raised) ∧
    (c ≠ .bk → s.mode = .armed ∨ s.mode = .fallback → exec (.latchSetEvent c) s = .next raised) ∧
    (c ≠ .bk → s.mode = .active → exec (.latchSetEvent c) s = .next raised.fallenBack) ∧
    (c = .bk → s.mode = .armed ∨ s.mode = .fallback →
      exec (.latchSetEvent c) s = .next { raised with mode := .isolated, timer := .held }) ∧
    (c = .bk → s.mode = .active →
      exec (.latchSetEvent c) s = .next (raised.leftFor .isolated (s.fallbackCount + 1) .held))

/-- PHASE_COUNT and the ends of the periods: the phase advances in every channel that runs periods, up to the period
end, which is then due (R58; log 4); at a pair's period end both channels take their pending ratios up at once and
start at phase 0 (R60), BK likewise (R65); an output whose phase has reached its ratio is off (R58). -/
def Obligations.PeriodResult : Prop :=
  let ended := fun c : Channel =>
    { c with
      activeRatio := c.pendingRatio, phase := 0, due := .nothing
      output := !c.latch && decide (0 < c.pendingRatio) }
  let atEnd := fun c : Channel => c.running = true ∧ c.due = .periodEnd
  (∀ s : State, exec .phaseCount s = .next
    { s with
      channels := s.channels.map fun c =>
        if c.running = false then c
        else if c.phase + 1 < c.period then
          { c with phase := c.phase + 1, output := !c.latch && decide (c.phase + 1 < c.activeRatio) }
        else { c with due := .periodEnd, output := !c.latch && decide (c.phase < c.activeRatio) } }) ∧
  (∀ s : State, atEnd s.channels.li → atEnd s.channels.lx → exec (.pairPeriodEnd .left) s = .next
    { s with channels := { s.channels with li := ended s.channels.li, lx := ended s.channels.lx } }) ∧
  (∀ s : State, atEnd s.channels.ri → atEnd s.channels.rx → exec (.pairPeriodEnd .right) s = .next
    { s with channels := { s.channels with ri := ended s.channels.ri, rx := ended s.channels.rx } }) ∧
  (∀ s : State, atEnd s.channels.bk → exec .bkPeriodEnd s = .next
    { s with channels := { s.channels with bk := ended s.channels.bk } }) ∧
  ∀ (s : State) (c : Chan), (s.channels.get c).running = true →
    (s.channels.get c).activeRatio ≤ (s.channels.get c).phase → exec (.ratioOnTimeEnd c) s = .next
      { s with channels := s.channels.set c { s.channels.get c with output := false } }

/-- The pull-in of BK and the EXERCISE pulse: each step takes 1 from pulse remaining (R64, R72); the completion of the
pull-in starts the hold stage at phase 0 (R65), that of a pulse turns its output off and gives OFF (R72). The model's
choices in it: the pull-in's completion stands due, and a pulse waits at 0 in PULSE, until its own command (log 4); the
pulse's commands act on every channel in PULSE (log 18); a completion that is not due changes nothing (log 2). -/
def Obligations.PulseResult : Prop :=
  (∀ s : State, s.channels.bk.mode = .engage → 1 < s.channels.bk.pulseRemaining →
    exec .pullInStep s = .next
      { s with
        channels :=
          { s.channels with
            bk := { s.channels.bk with
                    pulseRemaining := s.channels.bk.pulseRemaining - 1, output := !s.channels.bk.latch } } }) ∧
  (∀ s : State, s.channels.bk.mode = .engage → s.channels.bk.pulseRemaining = 1 →
    exec .pullInStep s = .next
      { s with
        channels :=
          { s.channels with
            bk := { s.channels.bk with
                    pulseRemaining := 0, due := .pullIn
                    output := !s.channels.bk.latch &&
                      decide (s.channels.bk.phase < s.channels.bk.activeRatio) } } }) ∧
  (∀ s : State, s.channels.bk.mode = .engage → s.channels.bk.pulseRemaining = 0 → s.channels.bk.due = .pullIn →
    exec .pullInCompletion s = .next
      { s with
        channels :=
          { s.channels with
            bk := { s.channels.bk with
                    phase := 0, due := .nothing
                    output := !s.channels.bk.latch && decide (0 < s.channels.bk.activeRatio) } } }) ∧
  (∀ s : State, ¬(s.channels.bk.mode = .engage ∧ s.channels.bk.pulseRemaining = 0 ∧ s.channels.bk.due = .pullIn) →
    exec .pullInCompletion s = .next s) ∧
  (∀ s : State, exec .pulseStep s = .next
    { s with
      channels := s.channels.map fun c =>
        if c.mode = .pulse then { c with pulseRemaining := c.pulseRemaining - 1 } else c }) ∧
  ∀ s : State, exec .pulseCompletion s = .next
    { s with
      channels := s.channels.map fun c =>
        if c.mode = .pulse ∧ c.pulseRemaining = 0 then { Channel.reset with latch := c.latch } else c }

/-! ### What holds in every state the unit can be in -/

/-- Outside PASS no command but DEVICE_RESET changes a word of a table (R163). -/
def Obligations.TablesFixedOutsidePass : Prop :=
  ∀ (c : Instr) (s t : State), (∀ straps inputs, c ≠ .deviceReset straps inputs) → s.mode ≠ .pass →
    exec c s = .next t → t.tables = s.tables

/-- BK is driven only in ACTIVE, or by a pulse in PASS (R66); the inlet and the exhaust of a wheel are never on at the
same time (R60); in ARMED, FALLBACK and ISOLATED no output is on (5.1); with a latch set the output is off (R57). -/
def Obligations.OutputsOnlyWhereAllowed : Prop :=
  ∀ s : State, s.Sound →
    (s.channels.bk.output = true → s.mode = .active ∨ (s.mode = .pass ∧ s.channels.bk.mode = .pulse)) ∧
    ¬(s.channels.li.output = true ∧ s.channels.lx.output = true) ∧
    ¬(s.channels.ri.output = true ∧ s.channels.rx.output = true) ∧
    (s.mode = .armed ∨ s.mode = .fallback ∨ s.mode = .isolated → ∀ c, (s.channels.get c).output = false) ∧
    ∀ c, (s.channels.get c).latch = true → (s.channels.get c).output = false

/-- The attention list stays in strict priority order with one entry of each kind (R173). -/
def Obligations.StepKeepsAttentionSound : Prop :=
  ∀ s t : State, s.AttentionSound → step s = .next t → t.AttentionSound

/-- The queues stay at four frames of at most 80 bytes, with at most one entry in flight (R127, R134, R136). -/
def Obligations.StepKeepsQueuesSound : Prop :=
  ∀ s t : State, s.QueuesSound → step s = .next t → t.QueuesSound

/-- Every output stays as R57 gives it, every asserted input has its latch set and every latched channel is OFF; the
channel modes stay those of the axle mode (R57, R66, R69, R72). -/
def Obligations.StepKeepsChannelsSound : Prop :=
  (∀ s t : State, s.ValvesSound → step s = .next t → t.ValvesSound) ∧
    ∀ s t : State, s.ChannelsFollowMode → step s = .next t → t.ChannelsFollowMode

/-- The two channels of a pair keep one period timing and never both hold a ratio above 0 (R53, R60). -/
def Obligations.StepKeepsPeriodsSound : Prop :=
  ∀ s t : State, s.PeriodsSound → s.ChannelsFollowMode → s.TablesSound → step s = .next t → t.PeriodsSound

/-- The fallback count stays below the limit outside ISOLATED and PASS, the timer is HELD exactly in PASS and ISOLATED,
and in ACTIVE there is a record, no latch and no sense FAULT (R10, R81, R85, R103). -/
def Obligations.StepKeepsControllerSound : Prop :=
  ∀ s t : State, s.ControllerSound → step s = .next t → t.ControllerSound

/-- A table is IN SERVICE only outside PASS, and there the tables hold what ARM judged (R163, R170). -/
def Obligations.StepKeepsTablesSound : Prop :=
  ∀ s t : State, s.TablesSound → step s = .next t → t.TablesSound

/-- Outside ACTIVE the Wheel Records stand at their exit values; no target passes the ceiling and no DUMP outlasts the
dump limit (R14, R27, R38, R39). -/
def Obligations.StepKeepsWheelsSound : Prop :=
  (∀ s t : State, s.WheelsFollowMode → step s = .next t → t.WheelsFollowMode) ∧
    ∀ s t : State, s.WheelsSound → s.WheelsFollowMode → s.TablesSound → step s = .next t → t.WheelsSound

/-- The headline: a state in which all nine parts hold steps only to such states. -/
def Obligations.StepKeepsSound : Prop :=
  ∀ s t : State, s.Sound → step s = .next t → t.Sound

/-- All nine parts hold at State.reset, and after a DEVICE_RESET from any state whatever. -/
def Obligations.ResetIsSound : Prop :=
  State.reset.Sound ∧
    ∀ (straps : Nat) (inputs : PerChan Bool) (s t : State),
      exec (.deviceReset straps inputs) s = .next t → t.Sound

end Statements
end

