-- ==== Sys2Proof/Laws/State.lean ====
section
/-! SUPPORT. One lemma per field of State per named update of it, each true by definition. -/

namespace Sys2Proof.Machine

/-! `State.raise` -/

@[simp] theorem State.raise_mode (s : State) (k : AttentionKind) (d : Nat) : (s.raise k d).mode = s.mode := rfl
@[simp] theorem State.raise_fallbackCount (s : State) (k : AttentionKind) (d : Nat) :
    (s.raise k d).fallbackCount = s.fallbackCount := rfl
@[simp] theorem State.raise_station (s : State) (k : AttentionKind) (d : Nat) :
    (s.raise k d).station = s.station := rfl
@[simp] theorem State.raise_tables (s : State) (k : AttentionKind) (d : Nat) :
    (s.raise k d).tables = s.tables := rfl
@[simp] theorem State.raise_services (s : State) (k : AttentionKind) (d : Nat) :
    (s.raise k d).services = s.services := rfl
@[simp] theorem State.raise_record (s : State) (k : AttentionKind) (d : Nat) :
    (s.raise k d).record = s.record := rfl
@[simp] theorem State.raise_lastSequence (s : State) (k : AttentionKind) (d : Nat) :
    (s.raise k d).lastSequence = s.lastSequence := rfl
@[simp] theorem State.raise_reentryCount (s : State) (k : AttentionKind) (d : Nat) :
    (s.raise k d).reentryCount = s.reentryCount := rfl
@[simp] theorem State.raise_timer (s : State) (k : AttentionKind) (d : Nat) : (s.raise k d).timer = s.timer := rfl
@[simp] theorem State.raise_peerSlip (s : State) (k : AttentionKind) (d : Nat) :
    (s.raise k d).peerSlip = s.peerSlip := rfl
@[simp] theorem State.raise_peerNotReady (s : State) (k : AttentionKind) (d : Nat) :
    (s.raise k d).peerNotReady = s.peerNotReady := rfl
@[simp] theorem State.raise_notReadyRun (s : State) (k : AttentionKind) (d : Nat) :
    (s.raise k d).notReadyRun = s.notReadyRun := rfl
@[simp] theorem State.raise_lastRollSequence (s : State) (k : AttentionKind) (d : Nat) :
    (s.raise k d).lastRollSequence = s.lastRollSequence := rfl
@[simp] theorem State.raise_receiver (s : State) (k : AttentionKind) (d : Nat) :
    (s.raise k d).receiver = s.receiver := rfl
@[simp] theorem State.raise_receiveQueue (s : State) (k : AttentionKind) (d : Nat) :
    (s.raise k d).receiveQueue = s.receiveQueue := rfl
@[simp] theorem State.raise_transmitQueue (s : State) (k : AttentionKind) (d : Nat) :
    (s.raise k d).transmitQueue = s.transmitQueue := rfl
@[simp] theorem State.raise_sending (s : State) (k : AttentionKind) (d : Nat) :
    (s.raise k d).sending = s.sending := rfl
@[simp] theorem State.raise_teeth (s : State) (k : AttentionKind) (d : Nat) : (s.raise k d).teeth = s.teeth := rfl
@[simp] theorem State.raise_sense (s : State) (k : AttentionKind) (d : Nat) : (s.raise k d).sense = s.sense := rfl
@[simp] theorem State.raise_latestValid (s : State) (k : AttentionKind) (d : Nat) :
    (s.raise k d).latestValid = s.latestValid := rfl
@[simp] theorem State.raise_wheels (s : State) (k : AttentionKind) (d : Nat) :
    (s.raise k d).wheels = s.wheels := rfl
@[simp] theorem State.raise_engaged (s : State) (k : AttentionKind) (d : Nat) :
    (s.raise k d).engaged = s.engaged := rfl
@[simp] theorem State.raise_peerCap (s : State) (k : AttentionKind) (d : Nat) :
    (s.raise k d).peerCap = s.peerCap := rfl
@[simp] theorem State.raise_channels (s : State) (k : AttentionKind) (d : Nat) :
    (s.raise k d).channels = s.channels := rfl
@[simp] theorem State.raise_faultInputs (s : State) (k : AttentionKind) (d : Nat) :
    (s.raise k d).faultInputs = s.faultInputs := rfl
@[simp] theorem State.raise_attention (s : State) (k : AttentionKind) (d : Nat) :
    (s.raise k d).attention = raiseIn k d s.lastRollSequence s.attention := rfl
@[simp] theorem State.raise_pending (s : State) (k : AttentionKind) (d : Nat) :
    (s.raise k d).pending = s.pending := rfl

/-! `State.forcedOff` -/

@[simp] theorem State.forcedOff_mode (s : State) : s.forcedOff.mode = s.mode := rfl
@[simp] theorem State.forcedOff_fallbackCount (s : State) : s.forcedOff.fallbackCount = s.fallbackCount := rfl
@[simp] theorem State.forcedOff_station (s : State) : s.forcedOff.station = s.station := rfl
@[simp] theorem State.forcedOff_tables (s : State) : s.forcedOff.tables = s.tables := rfl
@[simp] theorem State.forcedOff_services (s : State) : s.forcedOff.services = s.services := rfl
@[simp] theorem State.forcedOff_record (s : State) : s.forcedOff.record = s.record := rfl
@[simp] theorem State.forcedOff_lastSequence (s : State) : s.forcedOff.lastSequence = s.lastSequence := rfl
@[simp] theorem State.forcedOff_reentryCount (s : State) : s.forcedOff.reentryCount = s.reentryCount := rfl
@[simp] theorem State.forcedOff_timer (s : State) : s.forcedOff.timer = s.timer := rfl
@[simp] theorem State.forcedOff_peerSlip (s : State) : s.forcedOff.peerSlip = s.peerSlip := rfl
@[simp] theorem State.forcedOff_peerNotReady (s : State) : s.forcedOff.peerNotReady = s.peerNotReady := rfl
@[simp] theorem State.forcedOff_notReadyRun (s : State) : s.forcedOff.notReadyRun = s.notReadyRun := rfl
@[simp] theorem State.forcedOff_lastRollSequence (s : State) :
    s.forcedOff.lastRollSequence = s.lastRollSequence := rfl
@[simp] theorem State.forcedOff_receiver (s : State) : s.forcedOff.receiver = s.receiver := rfl
@[simp] theorem State.forcedOff_receiveQueue (s : State) : s.forcedOff.receiveQueue = s.receiveQueue := rfl
@[simp] theorem State.forcedOff_transmitQueue (s : State) : s.forcedOff.transmitQueue = s.transmitQueue := rfl
@[simp] theorem State.forcedOff_sending (s : State) : s.forcedOff.sending = s.sending := rfl
@[simp] theorem State.forcedOff_teeth (s : State) : s.forcedOff.teeth = s.teeth := rfl
@[simp] theorem State.forcedOff_sense (s : State) : s.forcedOff.sense = s.sense := rfl
@[simp] theorem State.forcedOff_latestValid (s : State) : s.forcedOff.latestValid = s.latestValid := rfl
@[simp] theorem State.forcedOff_wheels (s : State) : s.forcedOff.wheels = s.wheels := rfl
@[simp] theorem State.forcedOff_engaged (s : State) : s.forcedOff.engaged = s.engaged := rfl
@[simp] theorem State.forcedOff_peerCap (s : State) : s.forcedOff.peerCap = s.peerCap := rfl
@[simp] theorem State.forcedOff_channels (s : State) :
    s.forcedOff.channels = s.channels.map Channel.forceOff := rfl
@[simp] theorem State.forcedOff_faultInputs (s : State) : s.forcedOff.faultInputs = s.faultInputs := rfl
@[simp] theorem State.forcedOff_attention (s : State) : s.forcedOff.attention = s.attention := rfl
@[simp] theorem State.forcedOff_pending (s : State) : s.forcedOff.pending = s.pending := rfl

/-! `State.leaveActive` -/

@[simp] theorem State.leaveActive_mode (s : State) : s.leaveActive.mode = s.mode := rfl
@[simp] theorem State.leaveActive_fallbackCount (s : State) : s.leaveActive.fallbackCount = s.fallbackCount := rfl
@[simp] theorem State.leaveActive_station (s : State) : s.leaveActive.station = s.station := rfl
@[simp] theorem State.leaveActive_tables (s : State) : s.leaveActive.tables = s.tables := rfl
@[simp] theorem State.leaveActive_services (s : State) : s.leaveActive.services = s.services := rfl
@[simp] theorem State.leaveActive_record (s : State) : s.leaveActive.record = s.record := rfl
@[simp] theorem State.leaveActive_lastSequence (s : State) : s.leaveActive.lastSequence = s.lastSequence := rfl
@[simp] theorem State.leaveActive_reentryCount (s : State) : s.leaveActive.reentryCount = 0 := rfl
@[simp] theorem State.leaveActive_timer (s : State) : s.leaveActive.timer = s.timer := rfl
@[simp] theorem State.leaveActive_peerSlip (s : State) : s.leaveActive.peerSlip = s.peerSlip := rfl
@[simp] theorem State.leaveActive_peerNotReady (s : State) : s.leaveActive.peerNotReady = s.peerNotReady := rfl
@[simp] theorem State.leaveActive_notReadyRun (s : State) : s.leaveActive.notReadyRun = s.notReadyRun := rfl
@[simp] theorem State.leaveActive_lastRollSequence (s : State) :
    s.leaveActive.lastRollSequence = s.lastRollSequence := rfl
@[simp] theorem State.leaveActive_receiver (s : State) : s.leaveActive.receiver = s.receiver := rfl
@[simp] theorem State.leaveActive_receiveQueue (s : State) : s.leaveActive.receiveQueue = s.receiveQueue := rfl
@[simp] theorem State.leaveActive_transmitQueue (s : State) : s.leaveActive.transmitQueue = s.transmitQueue := rfl
@[simp] theorem State.leaveActive_sending (s : State) : s.leaveActive.sending = s.sending := rfl
@[simp] theorem State.leaveActive_teeth (s : State) : s.leaveActive.teeth = s.teeth := rfl
@[simp] theorem State.leaveActive_sense (s : State) : s.leaveActive.sense = s.sense := rfl
@[simp] theorem State.leaveActive_latestValid (s : State) : s.leaveActive.latestValid = s.latestValid := rfl
@[simp] theorem State.leaveActive_wheels (s : State) :
    s.leaveActive.wheels = { left := s.wheels.left.exitValues, right := s.wheels.right.exitValues } := rfl
@[simp] theorem State.leaveActive_engaged (s : State) : s.leaveActive.engaged = false := rfl
@[simp] theorem State.leaveActive_peerCap (s : State) : s.leaveActive.peerCap = none := rfl
@[simp] theorem State.leaveActive_channels (s : State) :
    s.leaveActive.channels = s.channels.map Channel.forceOff := rfl
@[simp] theorem State.leaveActive_faultInputs (s : State) : s.leaveActive.faultInputs = s.faultInputs := rfl
@[simp] theorem State.leaveActive_attention (s : State) : s.leaveActive.attention = s.attention := rfl
@[simp] theorem State.leaveActive_pending (s : State) : s.leaveActive.pending = s.pending := rfl

/-! `State.leftFor` -/

@[simp] theorem State.leftFor_mode (s : State) (m : Mode) (n : Nat) (t : Timer) : (s.leftFor m n t).mode = m := rfl
@[simp] theorem State.leftFor_fallbackCount (s : State) (m : Mode) (n : Nat) (t : Timer) :
    (s.leftFor m n t).fallbackCount = n := rfl
@[simp] theorem State.leftFor_station (s : State) (m : Mode) (n : Nat) (t : Timer) :
    (s.leftFor m n t).station = s.station := rfl
@[simp] theorem State.leftFor_tables (s : State) (m : Mode) (n : Nat) (t : Timer) :
    (s.leftFor m n t).tables = s.tables := rfl
@[simp] theorem State.leftFor_services (s : State) (m : Mode) (n : Nat) (t : Timer) :
    (s.leftFor m n t).services = s.services := rfl
@[simp] theorem State.leftFor_record (s : State) (m : Mode) (n : Nat) (t : Timer) :
    (s.leftFor m n t).record = s.record := rfl
@[simp] theorem State.leftFor_lastSequence (s : State) (m : Mode) (n : Nat) (t : Timer) :
    (s.leftFor m n t).lastSequence = s.lastSequence := rfl
@[simp] theorem State.leftFor_reentryCount (s : State) (m : Mode) (n : Nat) (t : Timer) :
    (s.leftFor m n t).reentryCount = 0 := rfl
@[simp] theorem State.leftFor_timer (s : State) (m : Mode) (n : Nat) (t : Timer) :
    (s.leftFor m n t).timer = t := rfl
@[simp] theorem State.leftFor_peerSlip (s : State) (m : Mode) (n : Nat) (t : Timer) :
    (s.leftFor m n t).peerSlip = s.peerSlip := rfl
@[simp] theorem State.leftFor_peerNotReady (s : State) (m : Mode) (n : Nat) (t : Timer) :
    (s.leftFor m n t).peerNotReady = s.peerNotReady := rfl
@[simp] theorem State.leftFor_notReadyRun (s : State) (m : Mode) (n : Nat) (t : Timer) :
    (s.leftFor m n t).notReadyRun = s.notReadyRun := rfl
@[simp] theorem State.leftFor_lastRollSequence (s : State) (m : Mode) (n : Nat) (t : Timer) :
    (s.leftFor m n t).lastRollSequence = s.lastRollSequence := rfl
@[simp] theorem State.leftFor_receiver (s : State) (m : Mode) (n : Nat) (t : Timer) :
    (s.leftFor m n t).receiver = s.receiver := rfl
@[simp] theorem State.leftFor_receiveQueue (s : State) (m : Mode) (n : Nat) (t : Timer) :
    (s.leftFor m n t).receiveQueue = s.receiveQueue := rfl
@[simp] theorem State.leftFor_transmitQueue (s : State) (m : Mode) (n : Nat) (t : Timer) :
    (s.leftFor m n t).transmitQueue = s.transmitQueue := rfl
@[simp] theorem State.leftFor_sending (s : State) (m : Mode) (n : Nat) (t : Timer) :
    (s.leftFor m n t).sending = s.sending := rfl
@[simp] theorem State.leftFor_teeth (s : State) (m : Mode) (n : Nat) (t : Timer) :
    (s.leftFor m n t).teeth = s.teeth := rfl
@[simp] theorem State.leftFor_sense (s : State) (m : Mode) (n : Nat) (t : Timer) :
    (s.leftFor m n t).sense = s.sense := rfl
@[simp] theorem State.leftFor_latestValid (s : State) (m : Mode) (n : Nat) (t : Timer) :
    (s.leftFor m n t).latestValid = s.latestValid := rfl
@[simp] theorem State.leftFor_wheels (s : State) (m : Mode) (n : Nat) (t : Timer) :
    (s.leftFor m n t).wheels = { left := s.wheels.left.exitValues, right := s.wheels.right.exitValues } := rfl
@[simp] theorem State.leftFor_engaged (s : State) (m : Mode) (n : Nat) (t : Timer) :
    (s.leftFor m n t).engaged = false := rfl
@[simp] theorem State.leftFor_peerCap (s : State) (m : Mode) (n : Nat) (t : Timer) :
    (s.leftFor m n t).peerCap = none := rfl
@[simp] theorem State.leftFor_channels (s : State) (m : Mode) (n : Nat) (t : Timer) :
    (s.leftFor m n t).channels = s.channels.map Channel.forceOff := rfl
@[simp] theorem State.leftFor_faultInputs (s : State) (m : Mode) (n : Nat) (t : Timer) :
    (s.leftFor m n t).faultInputs = s.faultInputs := rfl
@[simp] theorem State.leftFor_attention (s : State) (m : Mode) (n : Nat) (t : Timer) :
    (s.leftFor m n t).attention = s.attention := rfl
@[simp] theorem State.leftFor_pending (s : State) (m : Mode) (n : Nat) (t : Timer) :
    (s.leftFor m n t).pending = s.pending := rfl

/-! `State.enterActive` -/

@[simp] theorem State.enterActive_mode (s : State) : s.enterActive.mode = .active := rfl
@[simp] theorem State.enterActive_fallbackCount (s : State) : s.enterActive.fallbackCount = s.fallbackCount := rfl
@[simp] theorem State.enterActive_station (s : State) : s.enterActive.station = s.station := rfl
@[simp] theorem State.enterActive_tables (s : State) : s.enterActive.tables = s.tables := rfl
@[simp] theorem State.enterActive_services (s : State) : s.enterActive.services = s.services := rfl
@[simp] theorem State.enterActive_record (s : State) : s.enterActive.record = s.record := rfl
@[simp] theorem State.enterActive_lastSequence (s : State) : s.enterActive.lastSequence = s.lastSequence := rfl
@[simp] theorem State.enterActive_reentryCount (s : State) : s.enterActive.reentryCount = s.reentryCount := rfl
@[simp] theorem State.enterActive_timer (s : State) : s.enterActive.timer = s.timer := rfl
@[simp] theorem State.enterActive_peerSlip (s : State) : s.enterActive.peerSlip = s.peerSlip := rfl
@[simp] theorem State.enterActive_peerNotReady (s : State) : s.enterActive.peerNotReady = s.peerNotReady := rfl
@[simp] theorem State.enterActive_notReadyRun (s : State) : s.enterActive.notReadyRun = s.notReadyRun := rfl
@[simp] theorem State.enterActive_lastRollSequence (s : State) :
    s.enterActive.lastRollSequence = s.lastRollSequence := rfl
@[simp] theorem State.enterActive_receiver (s : State) : s.enterActive.receiver = s.receiver := rfl
@[simp] theorem State.enterActive_receiveQueue (s : State) : s.enterActive.receiveQueue = s.receiveQueue := rfl
@[simp] theorem State.enterActive_transmitQueue (s : State) : s.enterActive.transmitQueue = s.transmitQueue := rfl
@[simp] theorem State.enterActive_sending (s : State) : s.enterActive.sending = s.sending := rfl
@[simp] theorem State.enterActive_teeth (s : State) : s.enterActive.teeth = s.teeth := rfl
@[simp] theorem State.enterActive_sense (s : State) : s.enterActive.sense = s.sense := rfl
@[simp] theorem State.enterActive_latestValid (s : State) : s.enterActive.latestValid = s.latestValid := rfl
@[simp] theorem State.enterActive_wheels (s : State) : s.enterActive.wheels = s.wheels := rfl
@[simp] theorem State.enterActive_engaged (s : State) : s.enterActive.engaged = false := rfl
@[simp] theorem State.enterActive_peerCap (s : State) : s.enterActive.peerCap = s.peerCap := rfl
@[simp] theorem State.enterActive_faultInputs (s : State) : s.enterActive.faultInputs = s.faultInputs := rfl
@[simp] theorem State.enterActive_attention (s : State) : s.enterActive.attention = s.attention := rfl
@[simp] theorem State.enterActive_pending (s : State) : s.enterActive.pending = s.pending := rfl

/-! `State.takeRecord` -/

@[simp] theorem State.takeRecord_mode (s : State) (d : DemandRecord) : (s.takeRecord d).mode = s.mode := rfl
@[simp] theorem State.takeRecord_fallbackCount (s : State) (d : DemandRecord) :
    (s.takeRecord d).fallbackCount = s.fallbackCount := rfl
@[simp] theorem State.takeRecord_station (s : State) (d : DemandRecord) :
    (s.takeRecord d).station = s.station := rfl
@[simp] theorem State.takeRecord_tables (s : State) (d : DemandRecord) : (s.takeRecord d).tables = s.tables := rfl
@[simp] theorem State.takeRecord_services (s : State) (d : DemandRecord) :
    (s.takeRecord d).services = s.services := rfl
@[simp] theorem State.takeRecord_record (s : State) (d : DemandRecord) : (s.takeRecord d).record = some d := rfl
@[simp] theorem State.takeRecord_lastSequence (s : State) (d : DemandRecord) :
    (s.takeRecord d).lastSequence = some d.sequence := rfl
@[simp] theorem State.takeRecord_reentryCount (s : State) (d : DemandRecord) :
    (s.takeRecord d).reentryCount = reentryAfter s.lastSequence d.sequence s.reentryCount := rfl
@[simp] theorem State.takeRecord_timer (s : State) (d : DemandRecord) :
    (s.takeRecord d).timer = .running s.tables.freshnessSpan := rfl
@[simp] theorem State.takeRecord_peerSlip (s : State) (d : DemandRecord) :
    (s.takeRecord d).peerSlip = s.peerSlip := rfl
@[simp] theorem State.takeRecord_peerNotReady (s : State) (d : DemandRecord) :
    (s.takeRecord d).peerNotReady = s.peerNotReady := rfl
@[simp] theorem State.takeRecord_notReadyRun (s : State) (d : DemandRecord) :
    (s.takeRecord d).notReadyRun = s.notReadyRun := rfl
@[simp] theorem State.takeRecord_lastRollSequence (s : State) (d : DemandRecord) :
    (s.takeRecord d).lastRollSequence = s.lastRollSequence := rfl
@[simp] theorem State.takeRecord_receiver (s : State) (d : DemandRecord) :
    (s.takeRecord d).receiver = s.receiver := rfl
@[simp] theorem State.takeRecord_receiveQueue (s : State) (d : DemandRecord) :
    (s.takeRecord d).receiveQueue = s.receiveQueue := rfl
@[simp] theorem State.takeRecord_transmitQueue (s : State) (d : DemandRecord) :
    (s.takeRecord d).transmitQueue = s.transmitQueue := rfl
@[simp] theorem State.takeRecord_sending (s : State) (d : DemandRecord) :
    (s.takeRecord d).sending = s.sending := rfl
@[simp] theorem State.takeRecord_teeth (s : State) (d : DemandRecord) : (s.takeRecord d).teeth = s.teeth := rfl
@[simp] theorem State.takeRecord_sense (s : State) (d : DemandRecord) : (s.takeRecord d).sense = s.sense := rfl
@[simp] theorem State.takeRecord_latestValid (s : State) (d : DemandRecord) :
    (s.takeRecord d).latestValid = s.latestValid := rfl
@[simp] theorem State.takeRecord_wheels (s : State) (d : DemandRecord) : (s.takeRecord d).wheels = s.wheels := rfl
@[simp] theorem State.takeRecord_engaged (s : State) (d : DemandRecord) :
    (s.takeRecord d).engaged = s.engaged := rfl
@[simp] theorem State.takeRecord_peerCap (s : State) (d : DemandRecord) :
    (s.takeRecord d).peerCap = s.peerCap := rfl
@[simp] theorem State.takeRecord_channels (s : State) (d : DemandRecord) :
    (s.takeRecord d).channels = s.channels := rfl
@[simp] theorem State.takeRecord_faultInputs (s : State) (d : DemandRecord) :
    (s.takeRecord d).faultInputs = s.faultInputs := rfl
@[simp] theorem State.takeRecord_attention (s : State) (d : DemandRecord) :
    (s.takeRecord d).attention = s.attention := rfl
@[simp] theorem State.takeRecord_pending (s : State) (d : DemandRecord) :
    (s.takeRecord d).pending = s.pending := rfl

/-! `State.evaluatePeers` -/

@[simp] theorem State.evaluatePeers_mode (s : State) (f : Frame) : (s.evaluatePeers f).mode = s.mode := rfl
@[simp] theorem State.evaluatePeers_fallbackCount (s : State) (f : Frame) :
    (s.evaluatePeers f).fallbackCount = s.fallbackCount := rfl
@[simp] theorem State.evaluatePeers_station (s : State) (f : Frame) :
    (s.evaluatePeers f).station = s.station := rfl
@[simp] theorem State.evaluatePeers_tables (s : State) (f : Frame) : (s.evaluatePeers f).tables = s.tables := rfl
@[simp] theorem State.evaluatePeers_services (s : State) (f : Frame) :
    (s.evaluatePeers f).services = s.services := rfl
@[simp] theorem State.evaluatePeers_record (s : State) (f : Frame) : (s.evaluatePeers f).record = s.record := rfl
@[simp] theorem State.evaluatePeers_lastSequence (s : State) (f : Frame) :
    (s.evaluatePeers f).lastSequence = s.lastSequence := rfl
@[simp] theorem State.evaluatePeers_reentryCount (s : State) (f : Frame) :
    (s.evaluatePeers f).reentryCount = s.reentryCount := rfl
@[simp] theorem State.evaluatePeers_timer (s : State) (f : Frame) : (s.evaluatePeers f).timer = s.timer := rfl
@[simp] theorem State.evaluatePeers_lastRollSequence (s : State) (f : Frame) :
    (s.evaluatePeers f).lastRollSequence = some (f.body.getD 0 0) := rfl
@[simp] theorem State.evaluatePeers_receiver (s : State) (f : Frame) :
    (s.evaluatePeers f).receiver = s.receiver := rfl
@[simp] theorem State.evaluatePeers_receiveQueue (s : State) (f : Frame) :
    (s.evaluatePeers f).receiveQueue = s.receiveQueue := rfl
@[simp] theorem State.evaluatePeers_transmitQueue (s : State) (f : Frame) :
    (s.evaluatePeers f).transmitQueue = s.transmitQueue := rfl
@[simp] theorem State.evaluatePeers_sending (s : State) (f : Frame) :
    (s.evaluatePeers f).sending = s.sending := rfl
@[simp] theorem State.evaluatePeers_teeth (s : State) (f : Frame) : (s.evaluatePeers f).teeth = s.teeth := rfl
@[simp] theorem State.evaluatePeers_sense (s : State) (f : Frame) : (s.evaluatePeers f).sense = s.sense := rfl
@[simp] theorem State.evaluatePeers_latestValid (s : State) (f : Frame) :
    (s.evaluatePeers f).latestValid = s.latestValid := rfl
@[simp] theorem State.evaluatePeers_wheels (s : State) (f : Frame) : (s.evaluatePeers f).wheels = s.wheels := rfl
@[simp] theorem State.evaluatePeers_engaged (s : State) (f : Frame) :
    (s.evaluatePeers f).engaged = s.engaged := rfl
@[simp] theorem State.evaluatePeers_peerCap (s : State) (f : Frame) :
    (s.evaluatePeers f).peerCap = s.peerCap := rfl
@[simp] theorem State.evaluatePeers_channels (s : State) (f : Frame) :
    (s.evaluatePeers f).channels = s.channels := rfl
@[simp] theorem State.evaluatePeers_faultInputs (s : State) (f : Frame) :
    (s.evaluatePeers f).faultInputs = s.faultInputs := rfl
@[simp] theorem State.evaluatePeers_attention (s : State) (f : Frame) :
    (s.evaluatePeers f).attention = s.attention := rfl
@[simp] theorem State.evaluatePeers_pending (s : State) (f : Frame) :
    (s.evaluatePeers f).pending = s.pending := rfl

/-! `State.takeInputs` -/

@[simp] theorem State.takeInputs_mode (s : State) : s.takeInputs.mode = s.mode := rfl
@[simp] theorem State.takeInputs_fallbackCount (s : State) : s.takeInputs.fallbackCount = s.fallbackCount := rfl
@[simp] theorem State.takeInputs_station (s : State) : s.takeInputs.station = s.station := rfl
@[simp] theorem State.takeInputs_tables (s : State) : s.takeInputs.tables = s.tables := rfl
@[simp] theorem State.takeInputs_services (s : State) : s.takeInputs.services = s.services := rfl
@[simp] theorem State.takeInputs_record (s : State) : s.takeInputs.record = s.record := rfl
@[simp] theorem State.takeInputs_lastSequence (s : State) : s.takeInputs.lastSequence = s.lastSequence := rfl
@[simp] theorem State.takeInputs_reentryCount (s : State) : s.takeInputs.reentryCount = s.reentryCount := rfl
@[simp] theorem State.takeInputs_timer (s : State) : s.takeInputs.timer = s.timer := rfl
@[simp] theorem State.takeInputs_peerSlip (s : State) : s.takeInputs.peerSlip = s.peerSlip := rfl
@[simp] theorem State.takeInputs_peerNotReady (s : State) : s.takeInputs.peerNotReady = s.peerNotReady := rfl
@[simp] theorem State.takeInputs_notReadyRun (s : State) : s.takeInputs.notReadyRun = s.notReadyRun := rfl
@[simp] theorem State.takeInputs_lastRollSequence (s : State) :
    s.takeInputs.lastRollSequence = s.lastRollSequence := rfl
@[simp] theorem State.takeInputs_receiver (s : State) : s.takeInputs.receiver = s.receiver := rfl
@[simp] theorem State.takeInputs_receiveQueue (s : State) : s.takeInputs.receiveQueue = s.receiveQueue := rfl
@[simp] theorem State.takeInputs_transmitQueue (s : State) : s.takeInputs.transmitQueue = s.transmitQueue := rfl
@[simp] theorem State.takeInputs_sending (s : State) : s.takeInputs.sending = s.sending := rfl
@[simp] theorem State.takeInputs_teeth (s : State) : s.takeInputs.teeth = { left := 0, right := 0 } := rfl
@[simp] theorem State.takeInputs_sense (s : State) : s.takeInputs.sense = s.sense := rfl
@[simp] theorem State.takeInputs_latestValid (s : State) : s.takeInputs.latestValid = s.latestValid := rfl
@[simp] theorem State.takeInputs_engaged (s : State) : s.takeInputs.engaged = s.engaged := rfl
@[simp] theorem State.takeInputs_peerCap (s : State) : s.takeInputs.peerCap = s.peerCap := rfl
@[simp] theorem State.takeInputs_channels (s : State) : s.takeInputs.channels = s.channels := rfl
@[simp] theorem State.takeInputs_faultInputs (s : State) : s.takeInputs.faultInputs = s.faultInputs := rfl
@[simp] theorem State.takeInputs_attention (s : State) : s.takeInputs.attention = s.attention := rfl
@[simp] theorem State.takeInputs_pending (s : State) : s.takeInputs.pending = s.pending := rfl

/-! `State.storeWords` -/

@[simp] theorem State.storeWords_mode (s : State) (name : TableName) (r : Request) :
    (s.storeWords name r).mode = s.mode := rfl
@[simp] theorem State.storeWords_fallbackCount (s : State) (name : TableName) (r : Request) :
    (s.storeWords name r).fallbackCount = s.fallbackCount := rfl
@[simp] theorem State.storeWords_station (s : State) (name : TableName) (r : Request) :
    (s.storeWords name r).station = s.station := rfl
@[simp] theorem State.storeWords_tables (s : State) (name : TableName) (r : Request) :
    (s.storeWords name r).tables = Tables.storeAll name (s.effectiveLevel r) r.data r.offset s.tables := rfl
@[simp] theorem State.storeWords_services (s : State) (name : TableName) (r : Request) :
    (s.storeWords name r).services = s.services.put name .loaded := rfl
@[simp] theorem State.storeWords_record (s : State) (name : TableName) (r : Request) :
    (s.storeWords name r).record = s.record := rfl
@[simp] theorem State.storeWords_lastSequence (s : State) (name : TableName) (r : Request) :
    (s.storeWords name r).lastSequence = s.lastSequence := rfl
@[simp] theorem State.storeWords_reentryCount (s : State) (name : TableName) (r : Request) :
    (s.storeWords name r).reentryCount = s.reentryCount := rfl
@[simp] theorem State.storeWords_timer (s : State) (name : TableName) (r : Request) :
    (s.storeWords name r).timer = s.timer := rfl
@[simp] theorem State.storeWords_peerSlip (s : State) (name : TableName) (r : Request) :
    (s.storeWords name r).peerSlip = s.peerSlip := rfl
@[simp] theorem State.storeWords_peerNotReady (s : State) (name : TableName) (r : Request) :
    (s.storeWords name r).peerNotReady = s.peerNotReady := rfl
@[simp] theorem State.storeWords_notReadyRun (s : State) (name : TableName) (r : Request) :
    (s.storeWords name r).notReadyRun = s.notReadyRun := rfl
@[simp] theorem State.storeWords_lastRollSequence (s : State) (name : TableName) (r : Request) :
    (s.storeWords name r).lastRollSequence = s.lastRollSequence := rfl
@[simp] theorem State.storeWords_receiver (s : State) (name : TableName) (r : Request) :
    (s.storeWords name r).receiver = s.receiver := rfl
@[simp] theorem State.storeWords_receiveQueue (s : State) (name : TableName) (r : Request) :
    (s.storeWords name r).receiveQueue = s.receiveQueue := rfl
@[simp] theorem State.storeWords_transmitQueue (s : State) (name : TableName) (r : Request) :
    (s.storeWords name r).transmitQueue = s.transmitQueue := rfl
@[simp] theorem State.storeWords_sending (s : State) (name : TableName) (r : Request) :
    (s.storeWords name r).sending = s.sending := rfl
@[simp] theorem State.storeWords_teeth (s : State) (name : TableName) (r : Request) :
    (s.storeWords name r).teeth = s.teeth := rfl
@[simp] theorem State.storeWords_sense (s : State) (name : TableName) (r : Request) :
    (s.storeWords name r).sense = s.sense := rfl
@[simp] theorem State.storeWords_latestValid (s : State) (name : TableName) (r : Request) :
    (s.storeWords name r).latestValid = s.latestValid := rfl
@[simp] theorem State.storeWords_wheels (s : State) (name : TableName) (r : Request) :
    (s.storeWords name r).wheels = s.wheels := rfl
@[simp] theorem State.storeWords_engaged (s : State) (name : TableName) (r : Request) :
    (s.storeWords name r).engaged = s.engaged := rfl
@[simp] theorem State.storeWords_peerCap (s : State) (name : TableName) (r : Request) :
    (s.storeWords name r).peerCap = s.peerCap := rfl
@[simp] theorem State.storeWords_channels (s : State) (name : TableName) (r : Request) :
    (s.storeWords name r).channels = s.channels := rfl
@[simp] theorem State.storeWords_faultInputs (s : State) (name : TableName) (r : Request) :
    (s.storeWords name r).faultInputs = s.faultInputs := rfl
@[simp] theorem State.storeWords_attention (s : State) (name : TableName) (r : Request) :
    (s.storeWords name r).attention = s.attention := rfl
@[simp] theorem State.storeWords_pending (s : State) (name : TableName) (r : Request) :
    (s.storeWords name r).pending = s.pending := rfl

/-! `State.armed` -/

@[simp] theorem State.armed_mode (s : State) : s.armed.mode = .armed := rfl
@[simp] theorem State.armed_fallbackCount (s : State) : s.armed.fallbackCount = 0 := rfl
@[simp] theorem State.armed_station (s : State) : s.armed.station = s.station := rfl
@[simp] theorem State.armed_tables (s : State) : s.armed.tables = s.tables := rfl
@[simp] theorem State.armed_services (s : State) : s.armed.services = servicesAfterArm s.tables s.services := rfl
@[simp] theorem State.armed_record (s : State) : s.armed.record = none := rfl
@[simp] theorem State.armed_lastSequence (s : State) : s.armed.lastSequence = none := rfl
@[simp] theorem State.armed_reentryCount (s : State) : s.armed.reentryCount = 0 := rfl
@[simp] theorem State.armed_timer (s : State) : s.armed.timer = .running s.tables.freshnessSpan := rfl
@[simp] theorem State.armed_peerSlip (s : State) : s.armed.peerSlip = false := rfl
@[simp] theorem State.armed_peerNotReady (s : State) : s.armed.peerNotReady = false := rfl
@[simp] theorem State.armed_notReadyRun (s : State) : s.armed.notReadyRun = 0 := rfl
@[simp] theorem State.armed_lastRollSequence (s : State) : s.armed.lastRollSequence = s.lastRollSequence := rfl
@[simp] theorem State.armed_receiver (s : State) : s.armed.receiver = s.receiver := rfl
@[simp] theorem State.armed_receiveQueue (s : State) : s.armed.receiveQueue = s.receiveQueue := rfl
@[simp] theorem State.armed_transmitQueue (s : State) : s.armed.transmitQueue = s.transmitQueue := rfl
@[simp] theorem State.armed_sending (s : State) : s.armed.sending = s.sending := rfl
@[simp] theorem State.armed_teeth (s : State) : s.armed.teeth = s.teeth := rfl
@[simp] theorem State.armed_sense (s : State) : s.armed.sense = s.sense := rfl
@[simp] theorem State.armed_latestValid (s : State) : s.armed.latestValid = s.latestValid := rfl
@[simp] theorem State.armed_wheels (s : State) : s.armed.wheels = s.wheels := rfl
@[simp] theorem State.armed_engaged (s : State) : s.armed.engaged = s.engaged := rfl
@[simp] theorem State.armed_peerCap (s : State) : s.armed.peerCap = s.peerCap := rfl
@[simp] theorem State.armed_channels (s : State) : s.armed.channels = s.channels := rfl
@[simp] theorem State.armed_faultInputs (s : State) : s.armed.faultInputs = s.faultInputs := rfl
@[simp] theorem State.armed_attention (s : State) : s.armed.attention = s.attention := rfl
@[simp] theorem State.armed_pending (s : State) : s.armed.pending = s.pending := rfl

/-! `State.clearBlocks` -/

@[simp] theorem State.clearBlocks_mode (s : State) : s.clearBlocks.mode = .pass := rfl
@[simp] theorem State.clearBlocks_fallbackCount (s : State) : s.clearBlocks.fallbackCount = 0 := rfl
@[simp] theorem State.clearBlocks_station (s : State) : s.clearBlocks.station = s.station := rfl
@[simp] theorem State.clearBlocks_tables (s : State) : s.clearBlocks.tables = s.tables := rfl
@[simp] theorem State.clearBlocks_services (s : State) : s.clearBlocks.services = s.services.release := rfl
@[simp] theorem State.clearBlocks_record (s : State) : s.clearBlocks.record = none := rfl
@[simp] theorem State.clearBlocks_lastSequence (s : State) : s.clearBlocks.lastSequence = none := rfl
@[simp] theorem State.clearBlocks_reentryCount (s : State) : s.clearBlocks.reentryCount = 0 := rfl
@[simp] theorem State.clearBlocks_timer (s : State) : s.clearBlocks.timer = .held := rfl
@[simp] theorem State.clearBlocks_peerSlip (s : State) : s.clearBlocks.peerSlip = false := rfl
@[simp] theorem State.clearBlocks_peerNotReady (s : State) : s.clearBlocks.peerNotReady = false := rfl
@[simp] theorem State.clearBlocks_notReadyRun (s : State) : s.clearBlocks.notReadyRun = 0 := rfl
@[simp] theorem State.clearBlocks_lastRollSequence (s : State) : s.clearBlocks.lastRollSequence = none := rfl
@[simp] theorem State.clearBlocks_receiver (s : State) : s.clearBlocks.receiver = s.receiver := rfl
@[simp] theorem State.clearBlocks_receiveQueue (s : State) : s.clearBlocks.receiveQueue = s.receiveQueue := rfl
@[simp] theorem State.clearBlocks_transmitQueue (s : State) : s.clearBlocks.transmitQueue = s.transmitQueue := rfl
@[simp] theorem State.clearBlocks_sending (s : State) : s.clearBlocks.sending = s.sending := rfl
@[simp] theorem State.clearBlocks_teeth (s : State) : s.clearBlocks.teeth = s.teeth := rfl
@[simp] theorem State.clearBlocks_sense (s : State) : s.clearBlocks.sense = s.sense := rfl
@[simp] theorem State.clearBlocks_latestValid (s : State) : s.clearBlocks.latestValid = s.latestValid := rfl
@[simp] theorem State.clearBlocks_wheels (s : State) :
    s.clearBlocks.wheels = { left := s.wheels.left.exitValues, right := s.wheels.right.exitValues } := rfl
@[simp] theorem State.clearBlocks_engaged (s : State) : s.clearBlocks.engaged = false := rfl
@[simp] theorem State.clearBlocks_peerCap (s : State) : s.clearBlocks.peerCap = none := rfl
@[simp] theorem State.clearBlocks_faultInputs (s : State) : s.clearBlocks.faultInputs = s.faultInputs := rfl
@[simp] theorem State.clearBlocks_attention (s : State) : s.clearBlocks.attention = [] := rfl
@[simp] theorem State.clearBlocks_pending (s : State) : s.clearBlocks.pending = s.pending := rfl

/-! `State.passOn` -/

@[simp] theorem State.passOn_mode (s : State) (rest : List RxEntry) (c : List Byte) :
    (s.passOn rest c).mode = s.mode := rfl
@[simp] theorem State.passOn_fallbackCount (s : State) (rest : List RxEntry) (c : List Byte) :
    (s.passOn rest c).fallbackCount = s.fallbackCount := rfl
@[simp] theorem State.passOn_station (s : State) (rest : List RxEntry) (c : List Byte) :
    (s.passOn rest c).station = s.station := rfl
@[simp] theorem State.passOn_tables (s : State) (rest : List RxEntry) (c : List Byte) :
    (s.passOn rest c).tables = s.tables := rfl
@[simp] theorem State.passOn_services (s : State) (rest : List RxEntry) (c : List Byte) :
    (s.passOn rest c).services = s.services := rfl
@[simp] theorem State.passOn_record (s : State) (rest : List RxEntry) (c : List Byte) :
    (s.passOn rest c).record = s.record := rfl
@[simp] theorem State.passOn_lastSequence (s : State) (rest : List RxEntry) (c : List Byte) :
    (s.passOn rest c).lastSequence = s.lastSequence := rfl
@[simp] theorem State.passOn_reentryCount (s : State) (rest : List RxEntry) (c : List Byte) :
    (s.passOn rest c).reentryCount = s.reentryCount := rfl
@[simp] theorem State.passOn_timer (s : State) (rest : List RxEntry) (c : List Byte) :
    (s.passOn rest c).timer = s.timer := rfl
@[simp] theorem State.passOn_peerSlip (s : State) (rest : List RxEntry) (c : List Byte) :
    (s.passOn rest c).peerSlip = s.peerSlip := rfl
@[simp] theorem State.passOn_peerNotReady (s : State) (rest : List RxEntry) (c : List Byte) :
    (s.passOn rest c).peerNotReady = s.peerNotReady := rfl
@[simp] theorem State.passOn_notReadyRun (s : State) (rest : List RxEntry) (c : List Byte) :
    (s.passOn rest c).notReadyRun = s.notReadyRun := rfl
@[simp] theorem State.passOn_lastRollSequence (s : State) (rest : List RxEntry) (c : List Byte) :
    (s.passOn rest c).lastRollSequence = s.lastRollSequence := rfl
@[simp] theorem State.passOn_receiver (s : State) (rest : List RxEntry) (c : List Byte) :
    (s.passOn rest c).receiver = s.receiver := rfl
@[simp] theorem State.passOn_receiveQueue (s : State) (rest : List RxEntry) (c : List Byte) :
    (s.passOn rest c).receiveQueue = rest := rfl
@[simp] theorem State.passOn_transmitQueue (s : State) (rest : List RxEntry) (c : List Byte) :
    (s.passOn rest c).transmitQueue = s.transmitQueue ++ [c] := rfl
@[simp] theorem State.passOn_sending (s : State) (rest : List RxEntry) (c : List Byte) :
    (s.passOn rest c).sending = s.sending := rfl
@[simp] theorem State.passOn_teeth (s : State) (rest : List RxEntry) (c : List Byte) :
    (s.passOn rest c).teeth = s.teeth := rfl
@[simp] theorem State.passOn_sense (s : State) (rest : List RxEntry) (c : List Byte) :
    (s.passOn rest c).sense = s.sense := rfl
@[simp] theorem State.passOn_latestValid (s : State) (rest : List RxEntry) (c : List Byte) :
    (s.passOn rest c).latestValid = s.latestValid := rfl
@[simp] theorem State.passOn_wheels (s : State) (rest : List RxEntry) (c : List Byte) :
    (s.passOn rest c).wheels = s.wheels := rfl
@[simp] theorem State.passOn_engaged (s : State) (rest : List RxEntry) (c : List Byte) :
    (s.passOn rest c).engaged = s.engaged := rfl
@[simp] theorem State.passOn_peerCap (s : State) (rest : List RxEntry) (c : List Byte) :
    (s.passOn rest c).peerCap = s.peerCap := rfl
@[simp] theorem State.passOn_channels (s : State) (rest : List RxEntry) (c : List Byte) :
    (s.passOn rest c).channels = s.channels := rfl
@[simp] theorem State.passOn_faultInputs (s : State) (rest : List RxEntry) (c : List Byte) :
    (s.passOn rest c).faultInputs = s.faultInputs := rfl
@[simp] theorem State.passOn_attention (s : State) (rest : List RxEntry) (c : List Byte) :
    (s.passOn rest c).attention = s.attention := rfl
@[simp] theorem State.passOn_pending (s : State) (rest : List RxEntry) (c : List Byte) :
    (s.passOn rest c).pending = s.pending := rfl

end Sys2Proof.Machine
end

