-- ==== Sys2Proof/Laws/Ops.lean ====
section
/-! SUPPORT. What the shared operations of Machine/Ops.lean can do, said once: the claims, the take of the Frame
Engine, and what holds of all channels or both wheels. -/

namespace Sys2Proof.Machine

/-! ### All channels, both wheels -/

theorem forall_chan {p : Chan → Prop} : (∀ c, p c) ↔ p .bk ∧ p .li ∧ p .lx ∧ p .ri ∧ p .rx :=
  ⟨fun h => ⟨h _, h _, h _, h _, h _⟩, fun ⟨a, b, c, d, e⟩ x => by cases x <;> assumption⟩

theorem forall_wheel {p : Wheel → Prop} : (∀ w, p w) ↔ p .left ∧ p .right :=
  ⟨fun h => ⟨h _, h _⟩, fun ⟨a, b⟩ x => by cases x <;> assumption⟩

theorem anyLatch_eq_false_iff (s : State) : s.anyLatch = false ↔ ∀ c, (s.channels.get c).latch = false := by
  rw [forall_chan]; simp [State.anyLatch, State.anyWheelLatch, PerChan.get, and_assoc]

theorem anySenseFault_eq_false_iff (s : State) : s.anySenseFault = false ↔ ∀ w, (s.sense.get w).isFault = false := by
  rw [forall_wheel]; simp [State.anySenseFault, PerWheel.get]

theorem takeoverClear_iff (s : State) :
    s.takeoverClear = true ↔ (∀ c, (s.channels.get c).latch = false) ∧ (∀ w, (s.sense.get w).isFault = false) ∧
      (s.tables.soloOption = 1 ∨ s.peerNotReady = false) := by
  rw [← anyLatch_eq_false_iff, ← anySenseFault_eq_false_iff]; simp [State.takeoverClear, and_assoc]

/-! ### Channels -/

theorem Channel.forceOff_forceOff (c : Channel) : c.forceOff.forceOff = c.forceOff := rfl

@[simp] theorem Channel.forceOff_latch (c : Channel) : c.forceOff.latch = c.latch := rfl

@[simp] theorem Channel.forceOff_mode (c : Channel) : c.forceOff.mode = .off := rfl

@[simp] theorem Channel.forceOff_output (c : Channel) : c.forceOff.output = false := rfl

@[simp] theorem Channel.drive_output (c : Channel) : c.drive.output = c.level := rfl

@[simp] theorem Channel.drive_level (c : Channel) : c.drive.level = c.level := rfl

theorem Channel.level_off {c : Channel} (h : c.mode = .off) : c.level = false := by simp [Channel.level, h]

theorem Channel.level_latched {c : Channel} (h : c.latch = true) : c.level = false := by
  unfold Channel.level; cases c.mode <;> simp [h]

/-- In RATIO and in the ENGAGE hold stage the output is the one of R58. -/
theorem Channel.level_of_running {c : Channel} (h : c.running = true) :
    c.level = (!c.latch && decide (c.phase < c.activeRatio)) := by
  simp only [Channel.running, Channel.inHold, Bool.or_eq_true, decide_eq_true_eq, Bool.and_eq_true] at h
  rcases h with h | ⟨⟨h, h'⟩, h''⟩
  · simp [Channel.level, h]
  · simp [Channel.level, h, h']

theorem Channel.writePending_output (c : Channel) (n : Nat) : (c.writePending n).output = c.output := by
  unfold Channel.writePending; split <;> rfl

theorem Channel.writePending_mode (c : Channel) (n : Nat) : (c.writePending n).mode = c.mode := by
  unfold Channel.writePending; split <;> rfl

theorem Channel.writePending_latch (c : Channel) (n : Nat) : (c.writePending n).latch = c.latch := by
  unfold Channel.writePending; split <;> rfl

/-! ### Claims -/

theorem fallbackCause_eq_fallenBack (s : State) : s.fallbackCause = s.fallenBack := by
  unfold State.fallbackCause State.fallenBack; split <;> rfl

/-- A claim of a fallback cause acts in ACTIVE only (R82, 5.8). -/
theorem faultClaim_eq (s : State) : s.faultClaim = if s.mode = .active then s.fallenBack else s := by
  unfold State.faultClaim; cases h : s.mode <;> simp [fallbackCause_eq_fallenBack]

theorem peerNotReadyClaim_eq (s : State) :
    s.peerNotReadyClaim = if s.mode = .active ∧ s.tables.soloOption = 0 then s.fallenBack else s := by
  unfold State.peerNotReadyClaim; rw [faultClaim_eq]; split <;> split <;> simp_all

/-- Everything a fallback cause can do: the two exits of R82. -/
theorem fallenBack_cases (s : State) :
    (s.fallbackCount + 1 = s.tables.fallbackLimit ∧
        s.fallenBack = s.leftFor .isolated (s.fallbackCount + 1) .held) ∨
      (s.fallbackCount + 1 ≠ s.tables.fallbackLimit ∧
        s.fallenBack = s.leftFor .fallback (s.fallbackCount + 1) s.timer) := by
  unfold State.fallenBack; split
  · exact .inl ⟨by assumption, rfl⟩
  · exact .inr ⟨by assumption, rfl⟩

/-- Everything a latch claim of BK can do (R84). -/
theorem backupClaim_cases (s : State) :
    (s.mode = .active ∧ s.backupClaim = s.leftFor .isolated (s.fallbackCount + 1) .held) ∨
      ((s.mode = .armed ∨ s.mode = .fallback) ∧ s.backupClaim = { s with mode := .isolated, timer := .held }) ∨
      ((s.mode = .pass ∨ s.mode = .isolated) ∧ s.backupClaim = s) := by
  unfold State.backupClaim; cases h : s.mode <;> simp; rfl

theorem latchClaim_of_ne {s : State} {c : Chan} (h : c ≠ .bk) : s.latchClaim c = s.faultClaim := by
  cases c <;> first | exact absurd rfl h | rfl

/-- Everything a take's claim can do: nothing, or the entry of R81 under the conditions of R80 or R87. -/
theorem demandTakenClaim_cases (s : State) (demand : Nat) :
    s.demandTakenClaim demand = s ∨
      (s.demandTakenClaim demand = s.enterActive ∧ demand = 0 ∧ s.takeoverClear = true ∧
        (s.mode = .armed ∨
          (s.mode = .fallback ∧ 3 ≤ s.reentryCount ∧ s.fallbackCount < s.tables.fallbackLimit))) := by
  unfold State.demandTakenClaim
  split
  · split
    · rename_i hm h; right; simp at h; exact ⟨rfl, h.1, h.2, .inl hm⟩
    · exact .inl rfl
  · split
    · rename_i hm h; right; simp at h; exact ⟨rfl, h.1.1.1, h.1.2, .inr ⟨hm, h.1.1.2, h.2⟩⟩
    · exact .inl rfl
  all_goals exact .inl rfl

theorem Services.release_eq_released (v : Services) : v.release = v.released := by
  have h : Service.release = fun x => if x = .inService then .loaded else x := by funext x; cases x <;> rfl
  simp only [Services.release, Services.released, h]

theorem Service.release_ne_inService (x : Service) : x.release ≠ .inService := by cases x <;> decide

/-! ### The take -/

theorem take_of_takeable_eq_none {s : State} {row : TakeRow} {handle : RxEntry → State → State × List Byte}
    (h : s.takeable = none) : s.take row handle = s := by simp [State.take, h]

theorem takeable_of_canTake {s : State} {e : RxEntry} {rest : List RxEntry} {kind : KindTag} {ending : EndTag}
    (h : s.CanTake e rest) (he : e.status = .finished kind ending) :
    s.takeable = some (e, rowOf s.station kind ending (frameOf e)) := by
  obtain ⟨h1, h2, h3⟩ := h
  simp [State.takeable, h1, he, h3, frameOf]

/-- Everything a take can do: nothing, or the handling of the head and its passing on (R131). -/
theorem take_cases (s : State) (row : TakeRow) (handle : RxEntry → State → State × List Byte) :
    s.take row handle = s ∨ ∃ e rest kind ending,
      s.CanTake e rest ∧ e.status = .finished kind ending ∧ rowOf s.station kind ending (frameOf e) = row ∧
        s.take row handle =
          (handle e s).1.passOn (handle e s).1.receiveQueue.tail (handle e s).2 := by
  by_cases ht : s.takeable = none
  · exact .inl (take_of_takeable_eq_none ht)
  · by_cases hrow : ∃ e rest kind ending, s.CanTake e rest ∧ e.status = .finished kind ending ∧
        rowOf s.station kind ending (frameOf e) = row
    · obtain ⟨e, rest, kind, ending, hc, he, hr⟩ := hrow
      refine .inr ⟨e, rest, kind, ending, hc, he, hr, ?_⟩
      simp [State.take, takeable_of_canTake hc he, hr, State.passOn]
    · left
      cases hq : s.receiveQueue with
      | nil => simp [State.takeable, hq] at ht
      | cons e rest =>
        cases he : e.status with
        | inFlight => simp [State.takeable, hq, he] at ht
        | finished kind ending =>
          by_cases hl : s.transmitQueue.length < 4
          · have hc : s.CanTake e rest := ⟨hq, by simp [he], hl⟩
            have hr : rowOf s.station kind ending (frameOf e) ≠ row :=
              fun hr => hrow ⟨e, rest, kind, ending, hc, he, hr⟩
            simp [State.take, takeable_of_canTake hc he, hr]
          · simp [State.takeable, hq, he, hl] at ht

/-- The take of a dispatched frame by its row, where the handling leaves the Receive Queue alone. -/
theorem take_of_dispatches {s : State} {e : RxEntry} {rest : List RxEntry} {kind : KindTag} {row : TakeRow}
    {handle : RxEntry → State → State × List Byte} (hd : s.Dispatches kind e rest)
    (hr : rowOf s.station kind .complete (frameOf e) = row)
    (hq : (handle e s).1.receiveQueue = s.receiveQueue) :
    s.take row handle = (handle e s).1.passOn rest (handle e s).2 := by
  have ht := takeable_of_canTake hd.1 hd.2.1
  simp only [State.take, ht, hr, if_true, hq, hd.1.1]
  rfl

/-! ### The rows of dispatched frames (R133) -/

theorem rowOf_demand {s : State} {e : RxEntry} {rest : List RxEntry} (h : s.Dispatches .demand e rest) :
    rowOf s.station .demand .complete (frameOf e) = .demandFrame := by
  simp [rowOf, h.2.2.2.1, Nat.not_lt.mpr h.2.2.2.2]

theorem rowOf_roll {s : State} {e : RxEntry} {rest : List RxEntry} (h : s.Dispatches .roll e rest)
    (hv : stationValid s.station = true) : rowOf s.station .roll .complete (frameOf e) = .rollFrame := by
  simp [rowOf, h.2.2.2.1, Nat.not_lt.mpr h.2.2.2.2, hv]

theorem rowOf_manage {s : State} {e : RxEntry} {rest : List RxEntry} (h : s.Dispatches .manage e rest)
    (hv : stationValid s.station = true) :
    rowOf s.station .manage .complete (frameOf e) = manageRow s.station (frameOf e) := by
  simp [rowOf, h.2.2.2.1, Nat.not_lt.mpr h.2.2.2.2, hv]

theorem rowOf_request {s : State} {e : RxEntry} {rest : List RxEntry} {r : Request} {k : RequestKind}
    (h : s.Carries e rest r) (ht : r.target = s.station) (hk : r.kindCode = k.code) :
    rowOf s.station .manage .complete (frameOf e) = .request k := by
  obtain ⟨hd, hv, hb, hr⟩ := h
  subst hr
  have ht : (frameOf e).bodyByte 0 = s.station := ht
  have hk : (frameOf e).bodyByte 2 = k.code := hk
  rw [rowOf_manage hd hv]
  unfold manageRow
  rw [if_neg (by omega), if_pos ht, hk]
  cases k <;> rfl

theorem rowOf_broadcast {s : State} {e : RxEntry} {rest : List RxEntry} {r : Request}
    (h : s.Carries e rest r) (ht : r.target = 15) (hk : r.kindCode = 8) :
    rowOf s.station .manage .complete (frameOf e) = .request .loopClear := by
  obtain ⟨hd, hv, hb, hr⟩ := h
  subst hr
  have ht : (frameOf e).bodyByte 0 = 15 := ht
  have hk : (frameOf e).bodyByte 2 = 8 := hk
  have hs : 1 ≤ s.station ∧ s.station ≤ 6 := by simpa [stationValid] using hv
  rw [rowOf_manage hd hv]
  unfold manageRow
  rw [if_neg (by omega), if_neg (by omega), if_pos (by simp [ht, hk])]

end Sys2Proof.Machine
end

