-- ==== Sys2Proof/Laws/Arming.lean ====
section
/-! SUPPORT. What the checks of ARM ask, in the words of chapter 10: the ranges of the fields, the shape of a curve by
its page words, the bands, and the order of the checks. -/

namespace Sys2Proof.Machine

/-! ### Ranges (R166, R167) -/

theorem inRange_iff (low high n : Nat) : inRange low high n = true ↔ low ≤ n ∧ n ≤ high := by simp [inRange]

theorem axleFieldValid_iff (t : Tables) {i : Nat} (h : i < 18) :
    axleFieldValid t i = true ↔ WordInRange (axleRanges t) t.axle.toList i := by
  have key : ∀ (j : Nat) (hj : j < 18), t.axle.toList.getD j 0 = t.axle[j] := by
    intro j hj; simp [List.getD, hj]
  unfold WordInRange
  rw [key i h]
  rcases i with _|_|_|_|_|_|_|_|_|_|_|_|_|_|_|_|_|_|i
  all_goals first
    | exact inRange_iff _ _ _
    | omega

theorem slipFieldValid_iff (t : Tables) {i : Nat} (h : i < 8) :
    slipFieldValid t i = true ↔ WordInRange slipRanges t.slip.toList i := by
  have key : ∀ (j : Nat) (hj : j < 8), t.slip.toList.getD j 0 = t.slip[j] := by
    intro j hj; simp [List.getD, hj]
  unfold WordInRange
  rw [key i h]
  rcases i with _|_|_|_|_|_|_|_|i
  all_goals first
    | exact inRange_iff _ _ _
    | omega

/-- A search from the lowest index finds the first that fails. -/
theorem find_range_of_first {n i : Nat} {passes : Nat → Prop} {fails : Nat → Bool}
    (hf : ∀ j, j < n → (fails j = false ↔ passes j)) (h : FirstFailure n passes i) :
    (List.range n).find? fails = some i := by
  obtain ⟨hi, hn, hp⟩ := h
  rw [List.find?_range_eq_some]
  refine ⟨?_, by simpa using hi, ?_⟩
  · have := hf i hi; cases hh : fails i <;> simp_all
  · intro j hj; have := (hf j (by omega)).2 (hp j hj); simp [this]

theorem find_range_of_all {n : Nat} {passes : Nat → Prop} {fails : Nat → Bool}
    (hf : ∀ j, j < n → (fails j = false ↔ passes j)) (h : ∀ j, j < n → passes j) :
    (List.range n).find? fails = none := by
  simp only [List.find?_eq_none, List.mem_range]
  intro j hj; simp [(hf j hj).2 (h j hj)]

/-! ### The order of the checks (R164) -/

/-- The detail of the first check of a list that fails, where the first has the number `k`. -/
def firstFailed (k : Nat) (results : List (Option Nat)) : Option Nat :=
  (results.zipIdx k).findSome? fun c => c.1.map fun index => c.2 * 256 + index

theorem firstFailed_cons (k : Nat) (a : Option Nat) (l : List (Option Nat)) :
    firstFailed k (a :: l) = match a with
      | some index => some (k * 256 + index)
      | none => firstFailed (k + 1) l := by
  cases a <;> rfl

theorem firstFailed_of_first : ∀ (l : List (Option Nat)) (k n index : Nat), l[n]? = some (some index) →
    (∀ m, m < n → l[m]? = some none) → firstFailed k l = some ((n + k) * 256 + index)
  | [], _, _, _, h, _ => by simp at h
  | a :: l, k, 0, index, h, _ => by
    have ha : a = some index := by simpa using h
    subst ha
    rw [firstFailed_cons, Nat.zero_add]
  | a :: l, k, n + 1, index, h, hm => by
    have ha : a = none := by simpa using hm 0 (by omega)
    subst ha
    have ih := firstFailed_of_first l (k + 1) n index (by simpa using h) fun m hl => by
      simpa using hm (m + 1) (by omega)
    rw [firstFailed_cons, show n + 1 + k = n + (k + 1) by omega]
    exact ih

theorem firstFailed_of_all : ∀ (l : List (Option Nat)) (k : Nat), (∀ r ∈ l, r = none) → firstFailed k l = none
  | [], _, _ => rfl
  | a :: l, k, h => by
    rw [h a (by simp), firstFailed_cons]
    exact firstFailed_of_all l (k + 1) fun r hr => h r (by simp [hr])

/-- ARM judges its ten checks in order (R164). -/
theorem armFailure_eq (s : State) : s.armFailure =
    firstFailed 1 [s.checkA1, s.checkA2, s.checkA3, s.checkA4, s.checkA5, s.checkA6, s.checkA7, s.checkA8, s.checkA9,
      s.checkA10] := rfl

/-! ### Curves (R2, R168) -/

theorem placesOf_getElem? : ∀ (l : List Word) (i : Nat), (placesOf l)[i]? =
    if 2 * i + 1 < l.length then some ((l.getD (2 * i) 0).toNat, (l.getD (2 * i + 1) 0).toNat) else none
  | [], i => by simp [placesOf]
  | [a], i => by simp [placesOf]
  | a :: b :: l, 0 => by simp [placesOf]
  | a :: b :: l, i + 1 => by
    have := placesOf_getElem? l i
    have e : 2 * (i + 1) = 2 * i + 1 + 1 := by omega
    simp [placesOf, this, e]

theorem placesOf_length : ∀ l : List Word, (placesOf l).length = l.length / 2
  | [] => rfl
  | [_] => by simp [placesOf]
  | a :: b :: l => by have := placesOf_length l; simp [placesOf, this]; omega

theorem breakpoints_length (v : Vector Word 25) : (breakpoints v).length = min v[0].toNat 12 := by
  simp [breakpoints, placesOf_length, breakpointCount]

/-- Place `i` below the count is breakpoint `i` (R2, R185). -/
theorem breakpoints_getElem? (v : Vector Word 25) {i : Nat} (h : i < v[0].toNat) (h' : i < 12) :
    (breakpoints v)[i]? = some (placeDemand v i, placePressure v i) := by
  have : v.toList.tail.getD (2*i) 0 = v.toList.getD (1 + 2*i) 0 := by simp [List.getD, Nat.add_comm]
  have h2 : v.toList.tail.getD (2*i+1) 0 = v.toList.getD (2 + 2*i) 0 := by
    have : 2 + 2 * i = (2*i+1)+1 := by omega
    rw [this]; simp [List.getD]
  rw [breakpoints, breakpointCount, List.getElem?_take_of_lt h, placesOf_getElem?, if_pos (by simp; omega), this, h2]; rfl

theorem breakpoints_eq (v : Vector Word 25) (h : v[0].toNat ≤ 12) :
    breakpoints v = (List.range' 0 v[0].toNat).map fun i => (placeDemand v i, placePressure v i) := by
  apply List.ext_getElem?
  intro i
  by_cases hi : i < v[0].toNat
  · rw [breakpoints_getElem? v hi (by omega)]; simp [hi]
  · rw [List.getElem?_eq_none (by rw [breakpoints_length]; omega), List.getElem?_eq_none (by simp; omega)]

theorem followsBreakpoint_iff (v : Vector Word 25) {i : Nat} (h : 1 ≤ i) :
    followsBreakpoint (placeDemand v (i - 1)) (placePressure v (i - 1)) (placeDemand v i) (placePressure v i) = true ↔
      BreakpointFits v i := by
  unfold BreakpointFits followsBreakpoint
  rw [if_neg (by omega)]
  simp only [Bool.and_eq_true, decide_eq_true_iff, and_assoc]

theorem shapeFaultFrom_places (v : Vector Word 25) : ∀ (m i : Nat), 1 ≤ i →
    let result := shapeFaultFrom i (placeDemand v (i - 1)) (placePressure v (i - 1))
      ((List.range' i m).map fun j => (placeDemand v j, placePressure v j))
    ((∀ j, i ≤ j → j < i + m → BreakpointFits v j) → result = none) ∧
      ∀ k, i ≤ k → k < i + m → ¬BreakpointFits v k → (∀ j, i ≤ j → j < k → BreakpointFits v j) → result = some k
  | 0, i, _ => ⟨fun _ => rfl, fun k h h' => by omega⟩
  | m + 1, i, hi => by
    have ih := shapeFaultFrom_places v m (i + 1) (by omega)
    simp only [Nat.add_sub_cancel] at ih
    simp only [List.range'_succ, List.map_cons, shapeFaultFrom]
    by_cases hf : BreakpointFits v i
    · rw [if_pos ((followsBreakpoint_iff v hi).2 hf)]
      exact ⟨fun h => ih.1 fun j h1 h2 => h j (by omega) (by omega), fun k h1 h2 hn hb =>
        ih.2 k (by rcases Nat.lt_or_ge i k with h | h; omega; exact absurd ((by omega : k = i) ▸ hf) hn) (by omega) hn
          fun j h3 h4 => hb j (by omega) h4⟩
    · rw [if_neg (fun h => hf ((followsBreakpoint_iff v hi).1 h))]
      exact ⟨fun h => absurd (h i (by omega) (by omega)) hf, fun k h1 h2 hn hb => by
        rcases Nat.lt_or_ge i k with h | h
        · exact absurd (hb i (by omega) h) hf
        · exact congrArg some (by omega)⟩

theorem curveFault_countFits {v : Vector Word 25} (h : CountFits v) :
    curveFault v =
      if placeDemand v 0 = 0 ∧ placePressure v 0 ≤ 1000 then
        shapeFaultFrom 1 (placeDemand v 0) (placePressure v 0)
          ((List.range' 1 (v[0].toNat - 1)).map fun j => (placeDemand v j, placePressure v j))
      else some 0 := by
  obtain ⟨h1, h2⟩ := h
  unfold curveFault
  rw [if_neg (by simp [inRange, breakpointCount, h1, h2]), breakpoints_eq v h2]
  obtain ⟨n, hn⟩ : ∃ n, v[0].toNat = n + 1 := ⟨v[0].toNat - 1, by omega⟩
  simp only [hn, List.range'_succ, List.map_cons, Nat.add_sub_cancel, Bool.and_eq_true, decide_eq_true_iff]

/-- A curve of the shape of R2 passes A7 (R168). -/
theorem curveFault_of_fits {v : Vector Word 25} (h : CurveFits v) : curveFault v = none := by
  have h0 : BreakpointFits v 0 := h.2 0 (by have := h.1.1; omega)
  rw [curveFault_countFits h.1, if_pos (by simpa [BreakpointFits] using h0)]
  exact (shapeFaultFrom_places v (v[0].toNat - 1) 1 (by omega)).1 fun j h1 h2 => h.2 j (by omega)

/-- A curve fails A7 with the part of its first failing test (R168). -/
theorem curveFault_of_failsAt {v : Vector Word 25} {part : Nat} (h : CurveFailsAt v part) : curveFault v = some part := by
  rcases h with ⟨hc, rfl⟩ | ⟨hc, hi, hn, hp⟩
  · unfold curveFault
    rw [if_pos]
    rw [Bool.not_eq_true', ← Bool.not_eq_true]
    exact fun h => hc ((inRange_iff _ _ _).1 h)
  · rw [curveFault_countFits hc]
    by_cases h0 : BreakpointFits v 0
    · rw [if_pos (by simpa [BreakpointFits] using h0)]
      have h1 : 1 ≤ part := by rcases part with _ | p; exact absurd h0 hn; omega
      exact (shapeFaultFrom_places v (v[0].toNat - 1) 1 (by omega)).2 part h1 (by omega) hn fun j _ h2 => hp j h2
    · rw [if_neg (by simpa [BreakpointFits] using h0)]
      rcases part with _ | p
      · rfl
      · exact absurd (hp 0 (by omega)) h0

theorem curveReferenced_iff (t : Tables) (c : Nat) : curveReferenced t c = true ↔ t.Names c := by
  simp only [curveReferenced, Tables.Names, List.any_eq_true, decide_eq_true_iff]

/-- The result of A7 for one curve (R168). -/
theorem checkA7_eq (s : State) : s.checkA7 = (List.finRange 4).findSome? fun c : Fin 4 =>
    if curveReferenced s.tables c then (curveFault s.tables.curves[c]).map fun part => 16 * c.val + part else none := by
  rfl

theorem findSome_finRange_of_first {f : Fin 4 → Option Nat} {c : Fin 4} {x : Nat} (hc : f c = some x)
    (hd : ∀ d, d < c → f d = none) : (List.finRange 4).findSome? f = some x := by
  have hl : List.finRange 4 = [0, 1, 2, 3] := by decide
  rw [hl]; simp only [List.findSome?_cons]
  rcases c with ⟨_ | _ | _ | _ | c, h⟩
  · have : f 0 = some x := hc
    rw [this]
  · have : f 1 = some x := hc
    rw [hd 0 (by simp), this]
  · have : f 2 = some x := hc
    rw [hd 0 (by simp [Fin.lt_def]), hd 1 (by simp [Fin.lt_def]), this]
  · have : f 3 = some x := hc
    rw [hd 0 (by simp [Fin.lt_def]), hd 1 (by simp [Fin.lt_def]), hd 2 (by simp [Fin.lt_def]), this]
  · omega

/-- A7 fails at the first named curve without the shape (R168). -/
theorem checkA7_of_first {s : State} {c : Fin 4} {part : Nat} (hn : s.tables.Names c)
    (hf : CurveFailsAt s.tables.curves[c] part)
    (hb : ∀ d : Fin 4, d < c → s.tables.Names d → CurveFits s.tables.curves[d]) :
    s.checkA7 = some (16 * c.val + part) := by
  rw [checkA7_eq]
  refine findSome_finRange_of_first (c := c) ?_ fun d hd => ?_
  · rw [if_pos ((curveReferenced_iff _ _).2 hn), curveFault_of_failsAt hf]; rfl
  · split
    · rename_i h; rw [curveFault_of_fits (hb d hd ((curveReferenced_iff _ _).1 h))]; rfl
    · rfl

theorem checkA7_of_all {s : State} (h : ∀ c : Fin 4, s.tables.Names c → CurveFits s.tables.curves[c]) :
    s.checkA7 = none := by
  rw [checkA7_eq, List.findSome?_eq_none_iff]
  intro c _; split
  · rename_i hr; rw [curveFault_of_fits (h c ((curveReferenced_iff _ _).1 hr))]; rfl
  · rfl

/-- A band passes A6 (R168). -/
theorem bandFits_iff (s : State) (band : Nat) :
    loadEntryValid s.services (loadEntry s.tables band) = true ↔ s.BandFits band := by
  unfold loadEntryValid State.BandFits
  generalize loadEntry s.tables band = e
  have hw := e.factor.isLt
  split
  · rename_i hc
    rw [Bool.and_eq_true, inRange_iff, decide_eq_true_iff]
    constructor
    · rintro ⟨h1, h2⟩; exact ⟨h1.1, ⟨_, hc⟩, rfl, h2⟩
    · rintro ⟨h1, ⟨c, hc'⟩, h2, h3⟩
      simp only at h2; subst h2
      exact ⟨⟨h1, by omega⟩, h3⟩
  · rename_i hc
    constructor
    · intro h; exact nomatch h
    · rintro ⟨_, c, h1, _⟩; exact absurd (h1 ▸ c.isLt) hc

end Sys2Proof.Machine
end

