-- ==== Sys2Proof/Laws/Attention.lean ====
section
/-! SUPPORT. The attention list: what a raise and a removal do to its order and its entries. -/

namespace Sys2Proof.Machine

theorem AttentionKind.code_injective {k k' : AttentionKind} (h : k.code = k'.code) : k = k' := by
  cases k <;> cases k' <;> first | rfl | simp [AttentionKind.code] at h

theorem AttentionKind.ofCode_code (k : AttentionKind) : AttentionKind.ofCode k.code = some k := by cases k <;> rfl

@[simp] theorem AttentionEntry.again_kind (e : AttentionEntry) (d : Nat) : (e.again d).kind = e.kind := rfl

theorem AttentionEntry.again_repeats {e : AttentionEntry} (h : e.repeats ≤ 255) (d : Nat) :
    (e.again d).repeats = min 255 (e.repeats + 1) := by
  show (if e.repeats < 255 then e.repeats + 1 else e.repeats) = _
  split <;> omega

/-- The entries after a raise are the old ones, but for the one of its kind. -/
theorem mem_raiseIn {k : AttentionKind} {d : Nat} {seen : Option Byte} {l : List AttentionEntry}
    {x : AttentionEntry} (h : x ∈ raiseIn k d seen l) :
    x ∈ l ∨ x = { kind := k, detail := d, repeats := 1, firstSeen := seen } ∨
      ∃ e ∈ l, e.kind = k ∧ x = e.again d := by
  induction l with
  | nil => simp [raiseIn] at h; exact .inr (.inl h)
  | cons a l ih =>
    unfold raiseIn at h
    split at h
    · rename_i hk
      rcases List.mem_cons.mp h with h | h
      · exact .inr (.inr ⟨a, List.mem_cons_self, hk, h⟩)
      · exact .inl (List.mem_cons_of_mem _ h)
    · split at h
      · rcases List.mem_cons.mp h with h | h
        · exact .inl (h ▸ List.mem_cons_self)
        · rcases ih h with h | h | ⟨e, he, h⟩
          · exact .inl (List.mem_cons_of_mem _ h)
          · exact .inr (.inl h)
          · exact .inr (.inr ⟨e, List.mem_cons_of_mem _ he, h⟩)
      · rcases List.mem_cons.mp h with h | h
        · exact .inr (.inl h)
        · exact .inl h

/-- A raise keeps the strict priority order (R173, R174). -/
theorem raiseIn_pairwise (k : AttentionKind) (d : Nat) (seen : Option Byte) {l : List AttentionEntry}
    (h : (l.map fun e => e.kind.code).Pairwise (· < ·)) :
    ((raiseIn k d seen l).map fun e => e.kind.code).Pairwise (· < ·) := by
  induction l with
  | nil => simp [raiseIn]
  | cons a l ih =>
    simp only [List.map_cons, List.pairwise_cons, List.mem_map, forall_exists_index, and_imp,
      forall_apply_eq_imp_iff₂] at h
    unfold raiseIn
    split
    · simp only [List.map_cons, List.pairwise_cons, List.mem_map, forall_exists_index, and_imp,
        forall_apply_eq_imp_iff₂, AttentionEntry.again_kind]
      exact h
    · rename_i hne
      split
      · rename_i hlt
        simp only [List.map_cons, List.pairwise_cons, List.mem_map, forall_exists_index, and_imp,
          forall_apply_eq_imp_iff₂]
        refine ⟨fun x hx => ?_, ih h.2⟩
        rcases mem_raiseIn hx with hx | hx | ⟨e, he, hk, hx⟩
        · exact h.1 x hx
        · rw [hx]; exact hlt
        · rw [hx, AttentionEntry.again_kind, hk]; exact hlt
      · rename_i hge
        have hlt : k.code < a.kind.code := by
          rcases Nat.lt_trichotomy a.kind.code k.code with h' | h' | h'
          · exact absurd h' hge
          · exact absurd (AttentionKind.code_injective h') hne
          · exact h'
        simp only [List.map_cons, List.pairwise_cons, List.mem_cons, List.mem_map, forall_eq_or_imp,
          forall_exists_index, and_imp, forall_apply_eq_imp_iff₂]
        exact ⟨⟨hlt, fun x hx => Nat.lt_trans hlt (h.1 x hx)⟩, h.1, h.2⟩

/-- A removal keeps the order (R177). -/
theorem removeKind_pairwise (k : AttentionKind) {l : List AttentionEntry}
    (h : (l.map fun e => e.kind.code).Pairwise (· < ·)) :
    ((removeKind k l).map fun e => e.kind.code).Pairwise (· < ·) :=
  h.sublist ((List.filter_sublist).map _)

theorem mem_removeKind {k : AttentionKind} {l : List AttentionEntry} {x : AttentionEntry} :
    x ∈ removeKind k l ↔ x ∈ l ∧ x.kind ≠ k := by simp [removeKind]

end Sys2Proof.Machine
end

