-- ==== Sys2Proof/Laws/Frames.lean ====
section
/-! SUPPORT. Frames and their bytes: the content of an entry and what marking it does, the last entry of the Receive
Queue, the bytes of a roll frame's slots, and the check code's place. -/

namespace Sys2Proof.Machine

theorem content_length {e : RxEntry} (h : 6 ≤ e.bytes.length) : 4 ≤ (contentOf e.bytes).length := by
  simp [contentOf]; omega

theorem cons_of_four_le {c : List Byte} (h : 4 ≤ c.length) : ∃ k f s n body, c = k :: f :: s :: n :: body := by
  obtain _ | ⟨k, _ | ⟨f, _ | ⟨s, _ | ⟨n, body⟩⟩⟩⟩ := c <;> simp at h
  exact ⟨_, _, _, _, _, rfl⟩

theorem Frame.content_ofContent {c : List Byte} (h : 4 ≤ c.length) : (Frame.ofContent c).content = c := by
  obtain ⟨k, f, s, n, body, rfl⟩ := cons_of_four_le h; rfl

theorem Frame.ofContent_content (f : Frame) : Frame.ofContent f.content = f := rfl

theorem Frame.content_length (f : Frame) : f.content.length = 4 + f.body.length := by
  simp [Frame.content]; omega

/-- The damaged mark is bit 0 of byte 1 (R180). -/
theorem Frame.markDamaged_content {c : List Byte} (h : 4 ≤ c.length) :
    (Frame.ofContent c).markDamaged.content = c.set 1 (c.getD 1 0 ||| 1) := by
  obtain ⟨k, f, s, n, body, rfl⟩ := cons_of_four_le h; rfl

theorem updateLast_append (f : RxEntry → RxEntry) (l : List RxEntry) (e : RxEntry) :
    updateLast f (l ++ [e]) = l ++ [f e] := by
  induction l with
  | nil => rfl
  | cons a l ih =>
    cases l with
    | nil => rfl
    | cons b l => simpa [updateLast] using ih

theorem inFlight_of_append {s : State} {front : List RxEntry} {e : RxEntry} (h1 : s.receiver = .receiving)
    (h2 : s.receiveQueue = front ++ [e]) (h3 : e.status = .inFlight) : s.inFlight = some e := by
  simp [State.inFlight, h1, h2, h3]

/-- An entry in flight is the last of the queue while the receiver receives. -/
theorem inFlight_eq_some {s : State} {e : RxEntry} (h : s.inFlight = some e) :
    s.receiver = .receiving ∧ e.status = .inFlight ∧ ∃ front, s.receiveQueue = front ++ [e] := by
  unfold State.inFlight at h
  split at h
  · rename_i hr hl
    split at h
    · rename_i hs
      injection h with h
      subst h
      exact ⟨hr, hs, _, (List.dropLast_append_getLast? _ hl).symm⟩
    · simp at h
  · simp at h

/-- A COMPLETE entry has 6 bytes or more (R128). -/
theorem six_le_of_idleTag {e : RxEntry} (h : e.idleTag = .complete) : 6 ≤ e.bytes.length := by
  unfold RxEntry.idleTag at h
  split at h; · simp at h
  split at h; · simp at h
  omega

theorem slotStations_eq (n : Nat) (l : List Byte) :
    slotStations n l = (List.range n).map fun k => (l.getD (10 * k) 0).toNat := by
  induction n generalizing l with
  | zero => rfl
  | succ n ih =>
    rw [List.range_succ_eq_map]
    simp only [slotStations, ih, List.map_cons, List.map_map, Nat.mul_zero]
    congr 1
    apply List.map_congr_left; intro k _
    simp [List.getElem?_drop, Nat.mul_add, Nat.add_comm]

theorem bytesOfWords_length (ws : List Word) : (bytesOfWords ws).length = 2 * ws.length := by
  induction ws with
  | nil => rfl
  | cons w ws ih => simp [bytesOfWords, ih]; omega

theorem Reply.body_length (reply : Reply) (station : Nat) (tag : Byte) :
    (reply.body station tag).length = 6 + 2 * reply.words.length := by
  simp [Reply.body, bytesOfWords_length]; omega

/-- A reply frame is its 4 header bytes and its body (R149). -/
theorem reply_content_length (f : Frame) (station : Nat) (tag : Byte) (reply : Reply) :
    (f.reply station tag reply).content.length = 10 + 2 * reply.words.length := by
  rw [Frame.content_length]
  show 4 + (reply.body station tag).length = _
  rw [Reply.body_length]; omega

theorem positioned_length (s : State) (c : List Byte) : (s.positioned c).length = c.length := by
  simp [State.positioned]

theorem damagedContent_length {bytes : List Byte} :
    (damagedContent bytes).length = if 6 ≤ bytes.length then bytes.length - 2 else 4 := by
  unfold damagedContent
  split
  · rw [Frame.markDamaged_content (by simp [contentOf]; omega)]; simp [contentOf]
  · rw [Frame.markDamaged_content (by simp)]; simp

end Sys2Proof.Machine
end

