-- ==== Sys2Proof/Laws/Modulation.lean ====
section
/-! SUPPORT. Bounds of what the control period and the sampler compute: the chain, the slip, the target, the ratios
and the pressures. -/

namespace Sys2Proof.Machine

theorem chainLimited_le_ceiling (t : Tables) (d : DemandRecord) : chainLimited t d ≤ t.ceiling :=
  Nat.min_le_right _ _

theorem baseTarget_le (limited : Nat) (cap : Option Nat) : baseTarget limited cap ≤ limited := by
  cases cap <;> simp [baseTarget]

theorem periodBase_le_ceiling (s : State) (d : DemandRecord) : s.periodBase d ≤ s.tables.ceiling :=
  Nat.le_trans (baseTarget_le _ _) (chainLimited_le_ceiling _ _)

theorem targetWork_target_le (t : Tables) (scaled base : Nat) (w : WheelRecord) :
    (targetWork t scaled base w).target ≤ t.ceiling := Nat.min_le_right _ _

theorem slipOf_le (fault : Bool) (reference minimum speed : Nat) : slipOf fault reference minimum speed ≤ 1000 := by
  unfold slipOf
  split; · omega
  split; · omega
  split; · omega
  apply Nat.div_le_of_le_mul
  exact Nat.mul_le_mul_right _ (Nat.sub_le _ _)

theorem codePressure_le (code : Nat) : codePressure code ≤ 1000 := Nat.min_le_left _ _

theorem inletRatio_le (t : Tables) (w : WheelRecord) : inletRatio t w ≤ t.wheelPeriod := by
  unfold inletRatio; repeat' split
  all_goals omega

theorem exhaustRatio_le (t : Tables) (w : WheelRecord) : exhaustRatio t w ≤ t.wheelPeriod := by
  unfold exhaustRatio; repeat' split
  all_goals omega

/-- At most one of the two ratios of a wheel is above 0 (R53). -/
theorem ratios_exclusive (t : Tables) (w : WheelRecord) : inletRatio t w = 0 ∨ exhaustRatio t w = 0 := by
  unfold inletRatio exhaustRatio
  cases w.slipState <;> simp only [true_or]
  all_goals (repeat' split) <;> first | exact .inl rfl | exact .inr rfl | omega

theorem optionNumber_eq (o : Option Nat) : optionNumber o = o.getD 0 := by cases o <;> rfl

/-- A wheel enters sense FAULT at an invalid code in SUSPECT(2), and not otherwise (R43, R44). -/
theorem entersFault_iff (code : Nat) (state : Sense) :
    (!state.isFault && (senseAfter code state).isFault) = true ↔ state = .suspect2 ∧ codeValid code = false := by
  cases state <;> cases h : codeValid code <;> simp [senseAfter, h, Sense.isFault]

end Sys2Proof.Machine
end

