-- ==== Sys2Proof/WellFormed.lean ====
section
/-! DEFINITION. The operands a sender can give: the straps are three bits (0.4, R138) and a conversion code is
10 bits (0.4). Every other operand is well formed by its type. The machine is total all the same: straps
above 7 are not a valid station number, and a code above 972 is invalid (R42), whatever its size (log 23). -/

namespace Sys2Proof

/-- A conversion code is 0 to 1023 (0.4). -/
def codeInRange (code : Nat) : Bool := code ≤ 1023

/-- The operands lie in the ranges of the pins that carry them. -/
def Instr.WellFormed : Instr → Bool
  | .deviceReset straps _ => straps ≤ 7
  | .sample leftCode rightCode => codeInRange leftCode && codeInRange rightCode
  | .frameStart | .frameCompletion | .overlongCompletion | .damagedFrameForward | .forwardUnchanged
  | .demandFrame | .timerStep | .expiry | .rollFrame | .manageAddressing | .read | .write | .arm | .disarm
  | .acknowledge | .rearmChannel | .exercise | .loopClear | .controlPeriodEvent | .toothEdge _
  | .latchSetEvent _ | .faultInputDeasserted _ | .pairPeriodEnd _ | .ratioOnTimeEnd _ | .bkPeriodEnd
  | .pullInStep | .pullInCompletion | .pulseStep | .pulseCompletion | .transmitterTake | .frameSent
  | .characterCompletion _ _ | .receiverIdle | .phaseCount | .faultInputAssertedWhileLatched _ => true

end Sys2Proof
end

