-- ==== Sys2Proof/Tests/Slice0.lean ====
section
/-! SUPPORT. Small tests: ill-formed commands, figures worked in the spec, and for every statement with hypotheses one
theorem that shows states and operands which meet them, at the ends of their ranges. -/

namespace Sys2Proof.Tests

open Sys2Proof Sys2Proof.Machine

/-! ### Well-formedness and words -/

theorem test_straps_above_7_are_ill_formed : (Instr.deviceReset 8 (PerChan.all false)).WellFormed = false ∧
    (Instr.deviceReset 7 (PerChan.all true)).WellFormed = true := by decide

theorem test_codes_above_1023_are_ill_formed : (Instr.sample 1024 0).WellFormed = false ∧
    (Instr.sample 0 1024).WellFormed = false ∧ (Instr.sample 1023 1023).WellFormed = true := by decide

theorem test_no_row_gives_bits : decodeTableWord 8 1 = none ∧ decodeTableWord 0 0 = none := by decide

/-! ### Figures of the spec -/

/-- The conversions worked in 3.6, and the ends of the range of R42. -/
theorem test_code_pressures :
    [493, 498, 102, 51, 920, 972].map codePressure = [477, 484, 0, 0, 1000, 1000] ∧
      [50, 51, 972, 973].map codeValid = [false, true, true, false] := by decide

/-- The slips of the example in 2.10, at reference 360 with 36 speed units a tooth. -/
theorem test_slips_of_2_10 :
    [10, 9, 8, 7, 6].map (fun teeth => slipOf false 360 50 (wheelSpeed teeth 9216)) = [0, 100, 200, 300, 400] := by
  decide

/-- The frame of 12.5, with the check code the polynomial gives. -/
theorem test_check_code_of_12_5 :
    checkCode [1, 0, 0, 7, 0x28, 0x01, 0x2C, 0x01, 0x68, 5, 0] = 0x4BB1 := by decide +kernel

/-! ### Small states -/

/-- The Axle Record, Slip Table, Load Table, map and curve of a front axle, as ARM passes them. -/
def tables : Tables :=
  { axle := #v[1, 650, 10, 8, 6, 400, 200, 6, 120, 10, 3, 9216, 9216, 4, 4, 0, 0, 0]
    map := (Vector.replicate 16 { demand := false, manage := false, ceiling := 0 }).set 0
      { demand := true, manage := true, ceiling := 0 }
    load := Vector.replicate 8 { curve := 1, factor := 160, shift := 1 }
    slip := #v[120, 250, 60, 50, 20, 40, 25, 4]
    curves := (Vector.replicate 4 (Vector.replicate 25 0)).set 1
      #v[4, 0, 0, 80, 30, 400, 260, 850, 600, 0, 0, 0, 0, 0, 0, 0, 0, 0, 0, 0, 0, 0, 0, 0, 0] }

def servicesWith (x : Service) : Services :=
  { axle := x, map := x, load := x, slip := x, curves := (Vector.replicate 4 .empty).set 1 x }

/-- PASS with every table of the chain LOADED. -/
def loaded : State := { State.reset with tables := tables, services := servicesWith .loaded, receiver := .ready }

/-- ARMED on those tables. -/
def armed : State := { loaded with mode := .armed, services := servicesWith .inService, timer := .running 10 }

def record : DemandRecord := { source := 0, sequence := 1, demand := 400, reference := 360, band := 5, retarder := 0 }

/-- ACTIVE on those tables, BK in its hold stage, the engaged flag set. -/
def active : State :=
  { armed with
    mode := .active, record := some record, lastSequence := some 1, engaged := true
    latestValid := { left := some 300, right := some 325 }
    channels :=
      { bk := { mode := .engage, period := 200, activeRatio := 120, pendingRatio := 120, phase := 0, latch := false
                pulseRemaining := 0, output := true, due := .nothing }
        li := { Channel.reset with mode := .ratio, period := 400 }
        lx := { Channel.reset with mode := .ratio, period := 400 }
        ri := { Channel.reset with mode := .ratio, period := 400 }
        rx := { Channel.reset with mode := .ratio, period := 400 } } }

/-- An entry that ended COMPLETE, with this content and two check bytes. -/
def received (kind : KindTag) (content : List Byte) : RxEntry :=
  { bytes := content ++ [0, 0], framingFailed := false, status := .finished kind .complete }

def holding (s : State) (e : RxEntry) : State := { s with receiveQueue := [e] }

/-- A DEMAND frame of a source: sequence, demand, reference, load band 5. -/
def demandEntry (source sequence : Byte) (demand reference : Word) : RxEntry :=
  received .demand ([1, 0, source, 7, sequence] ++ bytesOfWords [demand, reference] ++ [5, 0])

def rollEntry (body : List Byte) : RxEntry :=
  received .roll ([2, 0, 0, BitVec.ofNat 8 body.length] ++ body)

/-- A MANAGE frame of source 0: target, level, kind, tag 7, page, offset, count, read mode, done field, data. -/
def manageEntry (target level kind page offset count mode : Byte) (data : List Byte) : RxEntry :=
  received .manage ([3, 0, 0, BitVec.ofNat 8 (9 + data.length), target, level, kind, 7, page, offset, count, mode, 0] ++
    data)

def requestOf (e : RxEntry) : Request := Request.ofFrame (frameOf e)

/-- The record of a wheel in FREE, with this target and measured pressure. -/
def freeWheel (target measured : Nat) : WheelRecord :=
  { WheelRecord.reset with target := target, measured := measured }

/-- The rows of the example in 3.5 in FREE: target and measured pressure, inlet and exhaust ratio. -/
theorem test_ratios_of_3_5 :
    [(300, 250), (300, 280), (300, 295), (300, 310), (200, 240), (126, 235)].map
        (fun p : Nat × Nat => (inletRatio tables (freeWheel p.1 p.2), exhaustRatio tables (freeWheel p.1 p.2))) =
      [(400, 0), (160, 0), (0, 0), (0, 0), (0, 240), (0, 400)] := by decide

/-- Curve 1 at its breakpoints, between two of them and beyond the last, and the chain up to the ceiling. -/
theorem test_chain :
    curvePressure tables 1 400 = 260 ∧ curvePressure tables 1 625 = 430 ∧ curvePressure tables 1 0 = 0 ∧
      curvePressure tables 1 80 = 30 ∧ curvePressure tables 1 850 = 600 ∧ curvePressure tables 1 1000 = 600 ∧
      scaledPressure 600 160 1 = 750 ∧ chainLimited tables { record with demand := 1000 } = 650 := by
  decide +kernel

/-! ### What the hypotheses of the takes ask, as one check -/

def dispatchesNow (s : State) (kind : KindTag) (e : RxEntry) : Bool :=
  e.status = .finished kind .complete && s.transmitQueue.length < 4 && 6 ≤ e.bytes.length &&
    !(frameOf e).damaged && (frameOf e).source.toNat ≤ 15

theorem dispatches_of {s : State} {kind : KindTag} {e : RxEntry} (h : dispatchesNow s kind e = true) :
    (holding s e).Dispatches kind e [] := by
  simp only [dispatchesNow, Bool.and_eq_true, decide_eq_true_eq, Bool.not_eq_true'] at h
  obtain ⟨⟨⟨⟨h1, h2⟩, h3⟩, h4⟩, h5⟩ := h
  exact ⟨⟨rfl, by simp [h1], h2⟩, h1, h3, h4, h5⟩

def carriesNow (s : State) (e : RxEntry) : Bool :=
  dispatchesNow s .manage e && stationValid s.station && 9 ≤ (frameOf e).body.length

theorem carries_of {s : State} {e : RxEntry} (h : carriesNow s e = true) :
    (holding s e).Carries e [] (Request.ofFrame (frameOf e)) := by
  simp only [carriesNow, Bool.and_eq_true, decide_eq_true_eq] at h
  exact ⟨dispatches_of h.1.1, h.1.2, h.2, rfl⟩

def passesNow (s : State) (k : RequestKind) (e : RxEntry) : Bool :=
  let r := Request.ofFrame (frameOf e)
  carriesNow s e && r.target = s.station && r.kindCode = k.code && s.manageAdmitted r.source &&
    wellFormedRequest k r && s.effectiveLevel r ≤ requiredLevel k && modeAllows k s.mode

theorem passes_of {s : State} {k : RequestKind} {e : RxEntry} (h : passesNow s k e = true) :
    (holding s e).Passes k e [] (Request.ofFrame (frameOf e)) := by
  simp only [passesNow, Bool.and_eq_true, decide_eq_true_eq] at h
  obtain ⟨⟨⟨⟨⟨⟨h1, h2⟩, h3⟩, h4⟩, h5⟩, h6⟩, h7⟩ := h
  exact ⟨carries_of h1, h2, h3, h4, h5, h6, h7⟩

/-! ### Witnesses: the frame path and the attention list -/

theorem witness_StepTakesFront : State.reset.pending = [] ∧ active.pending = [] := ⟨rfl, rfl⟩

/-- An empty list, and one with an entry at the ends of the ranges. -/
theorem witness_RaiseMakesOrCounts : State.reset.AttentionSound ∧
    { State.reset with
      attention :=
        [{ kind := .backupFault, detail := 0, repeats := 1, firstSeen := none },
          { kind := .sourceRefused, detail := 15, repeats := 255, firstSeen := some 9 }] }.AttentionSound :=
  ⟨⟨by decide, by decide⟩, ⟨by decide, by decide⟩⟩

def queued (n : Nat) : State := { loaded with receiveQueue := List.replicate n (demandEntry 0 1 0 360) }

theorem witness_FrameStartResult :
    ((queued 3).receiver = .ready ∧ (queued 3).receiveQueue.length < 4) ∧
      ((queued 4).receiver = .ready ∧ 4 ≤ (queued 4).receiveQueue.length) ∧ State.reset.receiver ≠ .ready := by
  decide

/-- A frame in flight behind another entry. -/
def inFlight (bytes : List Byte) (framingFailed : Bool) : State :=
  { loaded with
    receiver := .receiving
    receiveQueue := [demandEntry 0 1 0 360] ++ [{ bytes := bytes, framingFailed := framingFailed, status := .inFlight }] }

/-- A character as the 80th byte and as the 81st; characters outside a frame. -/
theorem witness_CharacterAndIdleResult :
    ((inFlight (List.replicate 79 1) false).receiver = .receiving ∧ (List.replicate 79 (1 : Byte)).length < 80) ∧
      ((inFlight (List.replicate 80 1) false).receiver = .receiving ∧ 80 ≤ (List.replicate 80 (1 : Byte)).length) ∧
      State.reset.receiver ≠ .receiving := by decide

/-- Wrong: 1 byte, 5 bytes, a failed character, a length that disagrees, a wrong check code. Right: 6 bytes with their
check code. 80 bytes are overlong. -/
theorem witness_FrameEndResult :
    1 ≤ ([1] : List Byte).length ∧ ([1, 0, 0, 0, 0] : List Byte).length < 6 ∧
      (withCheckCode [1, 0, 0, 0]).length = 6 + ((withCheckCode [1, 0, 0, 0]).getD 3 0).toNat ∧
      wordOf ((withCheckCode [1, 0, 0, 0]).getD 4 0) ((withCheckCode [1, 0, 0, 0]).getD 5 0) =
        checkCode ((withCheckCode [1, 0, 0, 0]).take 4) ∧
      (withCheckCode [1, 0, 0, 1]).length ≠ 6 + ((withCheckCode [1, 0, 0, 1]).getD 3 0).toNat ∧
      wordOf 0 0 ≠ checkCode [1, 0, 0, 0] ∧ (inFlight (List.replicate 80 1) true).receiver = .receiving := by
  decide +kernel

/-- The Transmit Queue full before a DEMAND entry at the head. -/
def full : State := { queued 1 with transmitQueue := List.replicate 4 [1, 0, 0, 0] }

theorem witness_HeadWaits : takesHead .demandFrame = true ∧ State.reset.receiveQueue = [] ∧
    (∃ e rest,
      { loaded with receiveQueue := [{ bytes := [], framingFailed := false, status := .inFlight }] }.receiveQueue =
        e :: rest ∧ e.status = .inFlight) ∧
    4 ≤ full.transmitQueue.length := ⟨rfl, rfl, ⟨_, _, rfl, rfl⟩, by decide⟩

def ended (n : Nat) (flags : Byte) (kind : KindTag) (ending : EndTag) : RxEntry :=
  { bytes := (List.replicate n 0).set 1 flags, framingFailed := false, status := .finished kind ending }

theorem canTake_ended (n : Nat) (flags : Byte) (kind : KindTag) (ending : EndTag) :
    (holding loaded (ended n flags kind ending)).CanTake (ended n flags kind ending) [] :=
  ⟨rfl, by simp [ended], Nat.zero_lt_succ 3⟩

/-- DAMAGED and OVERLONG entries at every length by `canTake_ended`; a COMPLETE one with the mark. -/
theorem witness_DamagedForwardResult :
    (∀ n, (ended n 0 .other .damaged).status = .finished .other .damaged) ∧
      (ended 80 0 .other .overlong).status = .finished .other .overlong ∧
      (ended 6 1 .demand .complete).status = .finished .demand .complete ∧
      (frameOf (ended 6 1 .demand .complete)).damaged = true := ⟨fun _ => rfl, rfl, rfl, by decide⟩

/-- A source of 16, a REPLY, another kind, and the two invalid stations. -/
theorem witness_ForwardUnchangedResult :
    (∀ kind, (frameOf (ended 6 0 kind .complete)).damaged = false) ∧
      15 < (frameOf (demandEntry 16 0 0 0)).source.toNat ∧ (frameOf (demandEntry 16 0 0 0)).damaged = false ∧
      stationValid 0 = false ∧ stationValid 7 = false := ⟨fun kind => by cases kind <;> decide, by decide⟩

theorem witness_TransmitterResult :
    (full.sending = none ∧ full.transmitQueue = [1, 0, 0, 0] :: List.replicate 3 [1, 0, 0, 0]) ∧
      { full with sending := some [] }.sending ≠ none ∧ State.reset.transmitQueue = [] := by decide

/-- Contents of 4 and of 78 bytes whose length agrees, and one of 78 bytes with the damaged mark. -/
theorem witness_SentFrameIsReceivedComplete :
    RxEntry.idleTag
        { bytes := withCheckCode [1, 0, 0, 0], framingFailed := false, status := .inFlight } = .complete ∧
      (queued 3).receiver = .ready ∧ (queued 3).receiveQueue.length < 4 ∧ contentFits [1, 0, 0, 0] ∧
      contentFits ([1, 0, 0, 74] ++ List.replicate 74 0) ∧ contentFits ([1, 1, 0, 0] ++ List.replicate 74 0) :=
  ⟨by decide +kernel, by decide, by decide, ⟨by decide, by decide⟩, ⟨by decide, by decide⟩, ⟨by decide, by decide⟩⟩

theorem witness_FormatsAgree : 4 ≤ ([0, 0, 0, 0] : List Byte).length := by decide

/-! ### Witnesses: Demand Admission, the timer and roll frames -/

def admitsNow (s : State) (e : RxEntry) : Bool :=
  let d := DemandRecord.ofFrame (frameOf e)
  dispatchesNow s .demand e && stationValid s.station && (s.mode = .armed || s.mode = .active || s.mode = .fallback) &&
    s.services.map ≠ .empty && ((s.tables.map[d.source.toNat]?).elim false fun a => a.demand) &&
    7 ≤ (frameOf e).body.length && d.demand.toNat ≤ 1000 && d.reference.toNat ≤ 1500 &&
    (s.lastSequence.elim true fun l => 1 ≤ (d.sequence - l).toNat && (d.sequence - l).toNat ≤ 127)

theorem admits_of {s : State} {e : RxEntry} (h : admitsNow s e = true) :
    (holding s e).Admits e [] (DemandRecord.ofFrame (frameOf e)) := by
  simp only [admitsNow, Bool.and_eq_true, Bool.or_eq_true, decide_eq_true_eq] at h
  obtain ⟨⟨⟨⟨⟨⟨⟨⟨h1, h2⟩, h3⟩, h4⟩, h5⟩, h6⟩, h7⟩, h8⟩, h9⟩ := h
  refine ⟨dispatches_of h1, h2, or_assoc.mp h3, h4, ?_, h6, rfl, h7, h8, ?_⟩
  · show ∃ a, s.tables.map[_]? = some a ∧ _
    revert h5; generalize s.tables.map[(DemandRecord.ofFrame (frameOf e)).source.toNat]? = o
    cases o with
    | none => intro h; exact nomatch h
    | some a => exact fun h => ⟨a, rfl, h⟩
  · intro l hl
    have hl : s.lastSequence = some l := hl
    rw [hl] at h9; simpa using h9

def inFallback (reentry count : Nat) : State :=
  { armed with mode := .fallback, lastSequence := some 4, reentryCount := reentry, fallbackCount := count }

/-- ACTIVE with demand 1000 at reference 1500, 127 ahead; ARMED with demand 1; FALLBACK with a re-entry count of 2. -/
theorem witness_DemandTakenResult :
    (admitsNow active (demandEntry 0 128 1000 1500) = true ∧ ¬active.Enters { record with demand := 1000 }) ∧
      (admitsNow armed (demandEntry 0 0 1 0) = true ∧ ¬armed.Enters { record with demand := 1 }) ∧
      (admitsNow (inFallback 1 0) (demandEntry 0 5 0 0) = true ∧
        ¬(inFallback 1 0).Enters { record with sequence := 5, demand := 0 }) :=
  ⟨⟨by decide, fun h => by rcases h.1 with h | h <;> revert h <;> decide⟩,
    ⟨by decide, fun h => by have := h.2.1; revert this; decide⟩,
    ⟨by decide, fun h => by rcases h.1 with h | h <;> revert h <;> decide⟩⟩

/-- ARMED, and FALLBACK with the third take in sequence and a count one below the limit. -/
theorem witness_EntryToActiveResult :
    (admitsNow armed (demandEntry 0 1 0 360) = true ∧ armed.Enters { record with demand := 0 }) ∧
      (admitsNow (inFallback 2 2) (demandEntry 0 5 0 360) = true ∧
        (inFallback 2 2).Enters { record with sequence := 5, demand := 0 }) ∧
      0 < armed.tables.pullInLength :=
  ⟨⟨by decide, .inl rfl, by decide, fun c => by cases c <;> rfl, fun w => by cases w <;> rfl, .inr rfl⟩,
    ⟨by decide, .inr ⟨rfl, by decide, by decide⟩, by decide, fun c => by cases c <;> rfl,
      fun w => by cases w <;> rfl, .inr rfl⟩, by decide⟩

/-- Not judged: PASS and station 7. Not admitted: source 15. Not valid: 6 bytes, demand 1001, reference 1501. Not
newer: differences of 0 and 128. -/
theorem witness_DemandNotTakenResult :
    dispatchesNow loaded .demand (demandEntry 0 1 0 0) = true ∧
      dispatchesNow { armed with station := 7 } .demand (demandEntry 0 1 0 0) = true ∧
      (dispatchesNow armed .demand (demandEntry 15 1 0 0) = true ∧
        (armed.tables.map[15]?.elim true fun a => a.demand) = false) ∧
      (dispatchesNow armed .demand (received .demand [1, 0, 0, 6, 0, 0, 0, 0, 0, 0]) = true ∧
        (frameOf (received .demand [1, 0, 0, 6, 0, 0, 0, 0, 0, 0])).body.length < 7) ∧
      dispatchesNow armed .demand (demandEntry 0 1 1001 0) = true ∧
      dispatchesNow armed .demand (demandEntry 0 1 0 1501) = true ∧
      dispatchesNow active .demand (demandEntry 0 1 0 0) = true ∧
      (dispatchesNow active .demand (demandEntry 0 129 0 0) = true ∧ ((129 : Byte) - 1).toNat = 128) := by decide

theorem witness_CountersResult :
    { armed with timer := .running 1 }.timer = .running 1 ∧ { armed with timer := .running 0 }.timer = .running 0 ∧
      loaded.timer = .held := ⟨rfl, rfl, rfl⟩

theorem witness_ExpiryResult :
    ({ armed with timer := .running 0 }.timer = .running 0 ∧ armed.mode ≠ .active) ∧
      ({ active with timer := .running 0 }.timer = .running 0 ∧ active.mode = .active) ∧
      armed.timer ≠ .running 0 ∧ loaded.timer ≠ .running 0 := by decide

/-- The example of 7.4: station 2 with mask and ready sense at positions 1, 2 and 3. -/
theorem witness_PositionRules :
    let s := { armed with
      station := 2
      tables := { tables with axle := #v[1, 650, 10, 8, 6, 400, 200, 6, 120, 10, 3, 9216, 9216, 14, 14, 0, 0, 0] } }
    s.showsNotReady 0x06 = 0x08 ∧ s.showsSlip 0x02 = 0x02 ∧ lowestPosition 0x08 = some 3 ∧
      lowestPosition 0 = none ∧ (7 : Nat) < 8 := by decide

/-- Body: 3 bytes, a wrong count; a slot of this station; 6 slots; 0 and 5 slots. The run rises from 2 to 3. -/
theorem witness_RollFrameResult :
    dispatchesNow armed .roll (rollEntry [1, 0, 0]) = true ∧
      (dispatchesNow armed .roll (rollEntry [1, 0, 0, 7]) = true ∧ ¬RollShaped (frameOf (rollEntry [1, 0, 0, 7]))) ∧
      (dispatchesNow armed .roll (rollEntry ([1, 0, 0, 1] ++ 1 :: List.replicate 9 0)) = true ∧
        RollShaped (frameOf (rollEntry ([1, 0, 0, 1] ++ 1 :: List.replicate 9 0))) ∧
        ((contentOf (rollEntry ([1, 0, 0, 1] ++ 1 :: List.replicate 9 0)).bytes).getD 8 0).toNat = armed.station) ∧
      (dispatchesNow armed .roll (rollEntry ([1, 0, 0, 6] ++ List.replicate 60 2)) = true ∧
        RollShaped (frameOf (rollEntry ([1, 0, 0, 6] ++ List.replicate 60 2)))) ∧
      (dispatchesNow armed .roll (rollEntry ([1, 0, 0, 5] ++ List.replicate 50 2)) = true ∧
        RollShaped (frameOf (rollEntry ([1, 0, 0, 5] ++ List.replicate 50 2)))) ∧
      RollShaped (frameOf (rollEntry [1, 0, 0, 0])) ∧ stationValid armed.station = true ∧
      { armed with notReadyRun := 2 }.showsNotReady 0 ≠ 0 := by
  unfold RollShaped; decide

/-! ### Witnesses: requests -/

/-- A body of 8 bytes; another station's and no station's target, a broadcast of another kind; kinds 0 and 9. -/
theorem witness_ManageAddressingResult :
    (dispatchesNow loaded .manage (received .manage [3, 0, 0, 8, 1, 0, 1, 7, 0, 0, 0, 0]) = true ∧
      (frameOf (received .manage [3, 0, 0, 8, 1, 0, 1, 7, 0, 0, 0, 0])).body.length < 9) ∧
      carriesNow loaded (manageEntry 2 0 1 0 0 0 0 []) = true ∧ carriesNow loaded (manageEntry 15 0 7 0 0 0 0 []) = true ∧
      carriesNow loaded (manageEntry 1 0 0 0 0 0 0 []) = true ∧
      (requestOf (manageEntry 1 0 0 0 0 0 0 [])).kindCode = 0 ∧
      carriesNow loaded (manageEntry 1 0 9 0 0 0 0 []) = true ∧
      (requestOf (manageEntry 1 0 9 0 0 0 0 [])).kindCode = 9 ∧ loaded.manageAdmitted 0 = true ∧
      loaded.manageAdmitted 15 = false := by decide

theorem witness_RequestChecks : State.reset.services.map = .empty ∧ loaded.services.map ≠ .empty ∧
    (∃ a, loaded.tables.map[(requestOf (manageEntry 1 0 1 0 0 0 0 [])).source]? = some a) :=
  ⟨rfl, by decide, _, rfl⟩

/-- The first failed check, from 1 to 5: a source of 15; level 4; EXERCISE at level 1; WRITE in ARMED; READ of page 5. -/
theorem witness_RefusedRequestChangesNothing :
    (carriesNow loaded (received .manage [3, 0, 15, 9, 1, 0, 1, 7, 0, 0, 0, 0, 0]) = true ∧
      loaded.manageAdmitted 15 = false) ∧
      (carriesNow loaded (manageEntry 1 4 1 0 0 0 0 []) = true ∧
        wellFormedRequest .read (requestOf (manageEntry 1 4 1 0 0 0 0 [])) = false) ∧
      (carriesNow loaded (manageEntry 1 1 7 0 0 2 0 [0, 1, 0, 1]) = true ∧
        wellFormedRequest .exercise (requestOf (manageEntry 1 1 7 0 0 2 0 [0, 1, 0, 1])) = true ∧
        requiredLevel .exercise < loaded.effectiveLevel (requestOf (manageEntry 1 1 7 0 0 2 0 [0, 1, 0, 1]))) ∧
      (carriesNow armed (manageEntry 1 1 2 1 0 0 0 []) = true ∧
        wellFormedRequest .write (requestOf (manageEntry 1 1 2 1 0 0 0 [])) = true ∧
        armed.effectiveLevel (requestOf (manageEntry 1 1 2 1 0 0 0 [])) ≤ requiredLevel .write ∧
        modeAllows .write armed.mode = false) ∧
      (passesNow loaded .read (manageEntry 1 3 1 5 0 0 0 []) = true ∧
        operandFailure .read (requestOf (manageEntry 1 3 1 5 0 0 0 [])) = some .badPage) := by decide

/-- COUNTED up to the last word of page 0, and none of it at its end; TO_END at the end of page 9. -/
theorem witness_ReadResult :
    passesNow loaded .read (manageEntry 1 3 1 0 0 16 0 []) = true ∧
      passesNow loaded .read (manageEntry 1 3 1 0 16 0 0 []) = true ∧ Page.ofNumber 0 = some .identity ∧
      Page.identity.length = 16 ∧ passesNow loaded .read (manageEntry 1 0 1 9 25 32 1 []) = true ∧
      Page.ofNumber 9 = some (.table (.curve 1)) ∧ (Page.table (.curve 1)).length = 25 := by decide

/-- The attention list with an entry of every kind. -/
def everyKind : State :=
  { State.reset with
    attention :=
      ([.backupFault, .valveFault, .senseFault, .demandLost, .peerNotReady, .speedFault, .slipExhausted, .stationClash,
          .queueOverrun, .frameDamaged, .sourceRefused] : List AttentionKind).map fun kind =>
        { kind := kind, detail := 15, repeats := 255, firstSeen := if kind = .sourceRefused then none else some 9 } }

/-- The first and the last entry of a list of eleven, with and without a first-seen roll sequence. -/
theorem witness_PageMapRules : everyKind.AttentionSound ∧ everyKind.attention.length = 11 ∧
    (0 < everyKind.attention.length ∧ 10 < everyKind.attention.length) ∧
    (everyKind.attention[0]?.map fun e => e.firstSeen) = some (some 9) ∧
    (everyKind.attention[10]?.map fun e => e.firstSeen) = some none ∧
    ((5 : Nat) ≤ 5 ∧ (7 : Nat) ≤ 7 ∧ (15 : Nat) ≤ 15) ∧ (33 : Nat) < 34 ∧
    1 + 3 * State.reset.attention.length ≤ 1 := ⟨⟨by decide, by decide⟩, by decide⟩

/-- The words of page 14 of that list at its ends. -/
theorem test_attention_page : (everyKind.pageWords .attention).take 4 = [11, 0x010F, 255, 0x0109] ∧
    (everyKind.pageWords .attention).drop 31 = [0x0B0F, 255, 0] := by decide +kernel

/-- Page 1 at level 1 with a protected word, up to its last word; page 2 at levels 0 and 1. -/
theorem witness_WriteResult :
    (passesNow loaded .write (manageEntry 1 1 2 1 16 2 0 [0, 1, 0, 2]) = true ∧
      (Page.table .axle).length = 18 ∧ Page.ofNumber 1 = some (.table .axle)) ∧
      passesNow loaded .write (manageEntry 1 1 2 1 0 2 0 [0, 1, 2, 0]) = true ∧ protectedWord .axle 1 = true ∧
      passesNow loaded .write (manageEntry 1 0 2 2 15 1 0 [0, 1]) = true ∧
      (passesNow loaded .write (manageEntry 1 1 2 2 15 1 0 [0, 1]) = true ∧
        loaded.effectiveLevel (requestOf (manageEntry 1 1 2 2 15 1 0 [0, 1])) ≠ 0 ∧
        Page.ofNumber 2 = some (.table .map) ∧ (Page.table .map).length = 16) := by decide

theorem tables_fit : TablesFit tables := by unfold TablesFit; decide +kernel

theorem witness_ArmResult :
    passesNow loaded .arm (manageEntry 1 1 3 0 0 0 0 []) = true ∧ entryOf .stationClash loaded.attention = none ∧
      loaded.services.axle = .loaded ∧ loaded.services.map = .loaded ∧ loaded.services.load = .loaded ∧
      loaded.services.slip = .loaded ∧
      (∀ c : Fin 4, curveReferenced loaded.tables c = true → loaded.services.curves[c] = .loaded) ∧
      TablesFit loaded.tables ∧ (∀ c, (loaded.channels.get c).mode ≠ .pulse ∧ (loaded.channels.get c).latch = false) ∧
      ∀ w, (loaded.sense.get w).isFault = false :=
  ⟨by decide, rfl, rfl, rfl, rfl, rfl, by decide, tables_fit, fun c => by cases c <;> decide,
    fun w => by cases w <;> rfl⟩

/-- PASS with the latch of one channel set. -/
def latched (c : Chan) : State := { loaded with channels := loaded.channels.set c { Channel.reset with latch := true } }

/-- A pulse in flight on a channel, of this length. -/
def pulsingOn (c : Chan) (length : Nat) : State :=
  { loaded with
    channels := loaded.channels.set c { Channel.reset with mode := .pulse, pulseRemaining := length, output := true } }

/-- A request that is refused, and states that fail A1, A2 and A8 to A10 at the ends of their ranges; and one that fails
none. -/
theorem witness_ArmRefusedResult :
    (passesNow (latched .rx) .arm (manageEntry 1 1 3 0 0 0 0 []) = true ∧ (latched .rx).armFailure = some 2308) ∧
      ({ loaded with station := 0 }.armFailure = some 256 ∧ { loaded with station := 7 }.armFailure = some 256) ∧
      (loaded.raise .stationClash 1).armFailure = some 512 ∧
      ((pulsingOn .bk 1).armFailure = some 2048 ∧ (pulsingOn .rx 200).armFailure = some 2052) ∧
      (latched .bk).armFailure = some 2304 ∧
      { loaded with sense := { left := .suspect2, right := .fault 2 } }.armFailure = some 2561 ∧
      { loaded with sense := { left := .fault 0, right := .fault 0 } }.armFailure = some 2560 ∧
      loaded.armFailure = none := by decide +kernel

/-- The tables with one word of a table changed. -/
def withAxle (i : Nat) (w : Word) : State :=
  { loaded with tables := { tables with axle := tables.axle.setIfInBounds i w } }

def withSlip (l : Vector Word 8) : State := { loaded with tables := { tables with slip := l } }

def withCurve (c : Fin 4) (v : Vector Word 25) (load : Vector LoadEntry 8) : State :=
  { loaded with
    tables := { tables with curves := tables.curves.set c v, load := load }
    services := { servicesWith .loaded with curves := Vector.replicate 4 .loaded } }

def loadNaming (c : BitVec 4) : Vector LoadEntry 8 := tables.load.set 3 { curve := c, factor := 1, shift := 0 }

/-- A3 to A5: the details that R166 and R167 work out, the ends of the offsets, and tables that are not LOADED. -/
theorem witness_ArmRefusedResult_A3_to_A5 :
    ((withAxle 1 0).armFailure = some 769 ∧ (withAxle 9 0).armFailure = some 777 ∧
        (withAxle 8 201).armFailure = some 776 ∧ (withAxle 0 4).armFailure = some 768 ∧
        (withAxle 17 301).armFailure = some 785) ∧
      { loaded with services := { loaded.services with axle := .empty } }.armFailure = some 1023 ∧
      { loaded with services := { loaded.services with map := .empty } }.armFailure = some 1279 ∧
      { loaded with tables := { tables with map := Tables.reset.map } }.armFailure = some 1040 ∧
      ((withSlip #v[200, 180, 60, 50, 20, 40, 25, 4]).armFailure = some 1281 ∧
        (withSlip #v[120, 250, 150, 50, 20, 40, 25, 4]).armFailure = some 1282 ∧
        (withSlip #v[120, 250, 60, 50, 0, 40, 25, 4]).armFailure = some 1284) ∧
      { loaded with services := { loaded.services with slip := .empty } }.armFailure = some 1535 := by
  decide +kernel

/-- First failures at the lowest and the highest index of each table. -/
theorem witness_ArmRefusedResult_first_failures :
    (FirstFailure 18 (WordInRange (axleRanges (withAxle 0 4).tables) (withAxle 0 4).tables.axle.toList) 0 ∧
        FirstFailure 18 (WordInRange (axleRanges (withAxle 17 301).tables) (withAxle 17 301).tables.axle.toList) 17) ∧
      (FirstFailure 8 (WordInRange slipRanges (withSlip #v[19, 250, 60, 50, 20, 40, 25, 4]).tables.slip.toList) 0 ∧
        FirstFailure 8 (WordInRange slipRanges (withSlip #v[120, 250, 60, 50, 20, 40, 25, 49]).tables.slip.toList) 7) ∧
      ((∀ i, i < 18 → WordInRange (axleRanges tables) tables.axle.toList i) ∧
        (∀ i, i < 8 → WordInRange slipRanges (withSlip #v[200, 180, 60, 50, 20, 40, 25, 4]).tables.slip.toList i)) ∧
      (FirstFailure 8 { loaded with tables := { tables with load := loadNaming 2 } }.BandFits 3 ∧
        FirstFailure 8 { loaded with tables := { tables with load := Tables.reset.load } }.BandFits 0) ∧
      (∀ band, band < 8 → loaded.BandFits band) ∧
      (tables.Names 1 ∧ CurveFits tables.curves[1] ∧ CurveFailsAt (tables.curves[1].set 0 14) 15 ∧
        CurveFailsAt (tables.curves[1].set 1 1) 0 ∧ CurveFailsAt (tables.curves[1].set 8 0) 3) := by
  unfold FirstFailure WordInRange State.BandFits Tables.Names CurveFits CurveFailsAt FirstFailure CountFits BreakpointFits
  dsimp only
  refine ⟨?_, ?_, ?_, ?_, ?_, ?_, ?_, ?_, ?_⟩ <;> decide +kernel

/-- A6 and A7: the details that R168 works out, and a Load Table that is not LOADED. -/
theorem witness_ArmRefusedResult_A6_and_A7 :
    { loaded with services := { loaded.services with load := .empty } }.armFailure = some 1791 ∧
      ({ loaded with tables := { tables with load := loadNaming 2 } }.armFailure = some 1539 ∧
        { loaded with tables := { tables with load := loadNaming 4 } }.armFailure = some 1539 ∧
        { loaded with tables := { tables with load := Tables.reset.load } }.armFailure = some 1536) ∧
      (withCurve 1 (tables.curves[1].set 0 14) tables.load).armFailure = some 1823 ∧
      (withCurve 1 (tables.curves[1].set 1 1) tables.load).armFailure = some 1808 ∧
      (withCurve 2 (#v[5, 0, 0, 80, 30, 400, 260, 850, 600, 850, 600, 0, 0, 0, 0, 0, 0, 0, 0, 0, 0, 0, 0, 0, 0])
        (loadNaming 2)).armFailure = some 1828 := by
  decide +kernel

theorem witness_DisarmResult :
    passesNow loaded .disarm (manageEntry 1 1 4 0 0 0 0 []) = true ∧
      passesNow active .disarm (manageEntry 1 1 4 0 0 0 0 []) = true ∧
      passesNow armed .disarm (manageEntry 1 1 4 0 0 0 0 []) = true ∧
      passesNow (inFallback 0 1) .disarm (manageEntry 1 1 4 0 0 0 0 []) = true ∧
      passesNow { armed with mode := .isolated, timer := .held } .disarm (manageEntry 1 1 4 0 0 0 0 []) = true := by
  decide

/-- The lowest and the highest code; an entry whose cause holds, one whose cause does not, and none. -/
theorem witness_AcknowledgeResult :
    (passesNow ((latched .bk).raise .backupFault 0) .acknowledge (manageEntry 1 2 5 0 0 1 0 [0, 1]) = true ∧
      (requestOf (manageEntry 1 2 5 0 0 1 0 [0, 1])).operand 0 = AttentionKind.backupFault.code ∧
      ((latched .bk).raise .backupFault 0).causeHolds .backupFault = true) ∧
      (passesNow (loaded.raise .sourceRefused 15) .acknowledge (manageEntry 1 2 5 0 0 1 0 [0, 11]) = true ∧
        (requestOf (manageEntry 1 2 5 0 0 1 0 [0, 11])).operand 0 = AttentionKind.sourceRefused.code ∧
        (∃ entry ∈ (loaded.raise .sourceRefused 15).attention, entry.kind = .sourceRefused) ∧
        (loaded.raise .sourceRefused 15).causeHolds .sourceRefused = false) ∧
      ∀ entry ∈ loaded.attention, entry.kind ≠ .sourceRefused := by decide

theorem valves_latched (c : Chan) (asserted : Bool) :
    { latched c with faultInputs := (PerChan.all false).set c asserted }.ValvesSound := by
  intro d
  unfold Channel.Sound
  cases c <;> cases d <;> cases asserted <;> decide

/-- Channels 0 and 4, the input asserted and not. -/
theorem witness_RearmResult :
    (∀ asserted, passesNow { latched .rx with faultInputs := (PerChan.all false).set .rx asserted } .rearmChannel
        (manageEntry 1 1 6 0 0 1 0 [0, 4]) = true) ∧
      (requestOf (manageEntry 1 1 6 0 0 1 0 [0, 4])).operand 0 = chanNumber .rx ∧
      (∀ asserted, passesNow { latched .bk with faultInputs := (PerChan.all false).set .bk asserted } .rearmChannel
        (manageEntry 1 1 6 0 0 1 0 [0, 0]) = true) ∧
      (requestOf (manageEntry 1 1 6 0 0 1 0 [0, 0])).operand 0 = chanNumber .bk :=
  ⟨fun a => by cases a <;> decide, by decide, fun a => by cases a <;> decide, by decide⟩

/-- A pulse in flight on another channel. -/
def pulsing : State := pulsingOn .li 1

/-- Lengths 1 and 200 on channels 0 and 4: busy, latched, and performed. -/
theorem witness_ExerciseResult :
    (passesNow pulsing .exercise (manageEntry 1 0 7 0 0 2 0 [0, 0, 0, 1]) = true ∧
      (pulsing.channels.get .li).mode = .pulse ∧
      (requestOf (manageEntry 1 0 7 0 0 2 0 [0, 0, 0, 1])).operand 0 = chanNumber .bk ∧
      (requestOf (manageEntry 1 0 7 0 0 2 0 [0, 0, 0, 1])).operand 1 = 1) ∧
      (passesNow (latched .rx) .exercise (manageEntry 1 0 7 0 0 2 0 [0, 4, 0, 200]) = true ∧
        (requestOf (manageEntry 1 0 7 0 0 2 0 [0, 4, 0, 200])).operand 0 = chanNumber .rx ∧
        (requestOf (manageEntry 1 0 7 0 0 2 0 [0, 4, 0, 200])).operand 1 = 200) ∧
      (passesNow loaded .exercise (manageEntry 1 0 7 0 0 2 0 [0, 4, 0, 200]) = true ∧
        ((latched .rx).channels.get .rx).latch = true ∧ (loaded.channels.get .rx).latch = false) ∧
      (∀ d, (loaded.channels.get d).mode ≠ .pulse) ∧ ∀ d, ((latched .rx).channels.get d).mode ≠ .pulse :=
  ⟨by decide, by decide, by decide, fun d => by cases d <;> decide, fun d => by cases d <;> decide⟩

/-- Addressed; broadcast from a source not admitted, ill-formed, at level 2, and performed at level 1. -/
theorem witness_LoopClearResult :
    passesNow active .loopClear (manageEntry 1 1 8 0 0 0 0 []) = true ∧
      (carriesNow active (received .manage [3, 0, 15, 9, 15, 0, 8, 7, 0, 0, 0, 0, 0]) = true ∧
        active.manageAdmitted 15 = false) ∧
      (carriesNow active (manageEntry 15 1 8 0 0 1 0 []) = true ∧
        wellFormedRequest .loopClear (requestOf (manageEntry 15 1 8 0 0 1 0 [])) = false) ∧
      (carriesNow active (manageEntry 15 2 8 0 0 0 0 []) = true ∧
        active.effectiveLevel (requestOf (manageEntry 15 2 8 0 0 0 0 [])) = 2) ∧
      (carriesNow active (manageEntry 15 1 8 0 0 0 0 []) = true ∧ active.manageAdmitted 0 = true ∧
        wellFormedRequest .loopClear (requestOf (manageEntry 15 1 8 0 0 0 0 [])) = true ∧
        active.effectiveLevel (requestOf (manageEntry 15 1 8 0 0 0 0 [])) = 1 ∧
        (requestOf (manageEntry 15 1 8 0 0 0 0 [])).target = 15 ∧
        (requestOf (manageEntry 15 1 8 0 0 0 0 [])).kindCode = 8) := by decide

/-! ### Witnesses: the control period, the sampler and the valves -/

theorem witness_ControlPeriodOutsideActive : armed.mode ≠ .active ∧ loaded.mode ≠ .active := by decide

/-- The state after one control period. -/
def periodOf (s : State) : State :=
  match exec .controlPeriodEvent s with
  | .next t => t
  | .fault _ => s
  | .refused _ => s

theorem exec_period (s : State) : exec .controlPeriodEvent s = .next (periodOf s) := rfl

/-- The hypotheses of every statement about a control period in ACTIVE. -/
theorem witness_ControlPeriodInActive : active.mode = .active ∧ active.record = some record ∧
    exec .controlPeriodEvent active = .next (periodOf active) := ⟨rfl, rfl, rfl⟩

theorem witness_ChainRules : (7 : Nat) < 8 ∧ (8 : Nat) ≤ 255 := by decide

/-- The first and the last of twelve places; at a breakpoint, just below the next one, and at the last one. -/
theorem witness_CurveLookupRule :
    let page : Vector Word 25 := (Vector.replicate 25 7).set 0 12
    (0 < page[0].toNat ∧ 11 < page[0].toNat) ∧
    let points := [(0, 0), (80, 30), (400, 260), (850, 600)]
    points.Pairwise (fun a b => a.1 < b.1 ∧ a.2 ≤ b.2) ∧ (2 < points.length ∧ 400 ≤ 400 ∧ 849 < 850) ∧
      (3 < points.length ∧ 850 ≤ 850) := by decide

theorem witness_CurveInServiceAlwaysGives : TablesFit tables := tables_fit

/-- ACTIVE with the left wheel's record and tooth count. -/
def leftAt (w : WheelRecord) (teeth : Nat) : State :=
  { active with wheels := { active.wheels with left := w }, teeth := { left := teeth, right := 10 } }

/-- OK with a run of 39 that reaches 40, and with teeth; FAULT with a tooth and without. -/
theorem witness_SpeedAndSlipRules :
    ((leftAt { WheelRecord.reset with zeroRun := 39 } 0).wheels.get .left).speedFault = false ∧
      ((leftAt WheelRecord.reset 255).wheels.get .left).speedFault = false ∧
      (((leftAt { WheelRecord.reset with speedFault := true, zeroRun := 40 } 1).wheels.get .left).speedFault = true ∧
        (1 : Nat) ≤ (leftAt { WheelRecord.reset with speedFault := true, zeroRun := 40 } 1).teeth.get .left) ∧
      (leftAt { WheelRecord.reset with speedFault := true, zeroRun := 40 } 0).teeth.get .left = 0 := by decide

theorem active_not_stopEnd (w : WheelRecord) (teeth : Nat) : ¬(leftAt w teeth).StopEnd record := by
  rintro (h | h) <;> revert h
  · decide
  · show ¬record.reference.toNat < tables.minimumReference; decide

/-- The four slip states, in each of which a wheel moves; and the stop end, at demand 0. -/
theorem witness_SlipStateRules :
    (((periodOf (leftAt WheelRecord.reset 8)).wheels.get .left).speedFault = false ∧
      ((periodOf (leftAt { WheelRecord.reset with slipState := .hold 298, stateTime := 40 } 9)).wheels.get
        .left).speedFault = false ∧
      ((periodOf (leftAt { WheelRecord.reset with slipState := .dump 298, stateTime := 20 } 6)).wheels.get
        .left).speedFault = false ∧
      ((periodOf (leftAt { WheelRecord.reset with slipState := .rebuild 307, stateTime := 6 } 10)).wheels.get
        .left).speedFault = false) ∧
      active.StopEnd { record with demand := 0 } ∧ active.StopEnd { record with reference := 49 } :=
  ⟨by decide +kernel, .inl rfl, .inr (by decide)⟩

/-- The figures of the example in 2.10: the entry into DUMP of period 3, and the end of HOLD of period 6. -/
theorem test_slip_of_2_10 :
    ((periodOf (leftAt { WheelRecord.reset with slipState := .hold 298, stateTime := 1, cycleCount := 3 } 7)).wheels.get
        .left).slipState = .dump 298 ∧
      ((periodOf (leftAt { WheelRecord.reset with slipState := .hold 298, stateTime := 1, cycleCount := 3 } 7)).wheels.get
        .left).exhaustionCap = some 298 ∧
      ((periodOf (leftAt { WheelRecord.reset with slipState := .hold 180, stateTime := 1, cycleCount := 4 } 10)).wheels.get
        .left).slipState = .rebuild 300 := by decide +kernel

/-- A state kept at time 65535, a state changed, and entries into DUMP at counts 3 (which exhausts) and 255. -/
theorem witness_SlipCountRules :
    ((periodOf (leftAt { WheelRecord.reset with stateTime := 65535 } 10)).wheels.get .left).slipState.code = 0 ∧
      ((periodOf (leftAt { WheelRecord.reset with cycleCount := 3 } 7)).wheels.get .left).slipState.code = 2 ∧
      ((periodOf (leftAt { WheelRecord.reset with cycleCount := 3 } 7)).wheels.get .left).cycleCount =
        active.tables.cycleLimit ∧
      ((periodOf (leftAt { WheelRecord.reset with cycleCount := 255 } 7)).wheels.get .left).cycleCount ≠
        active.tables.cycleLimit := by decide +kernel

theorem witness_TargetRules : active.mode = .active ∧ active.record = some record := ⟨rfl, rfl⟩

theorem witness_RatioRules : active.mode = .active ∧ active.record = some record ∧
    (periodOf active).engaged = true ∧
    (periodOf
      { active with
        engaged := false
        channels := { active.channels with bk := { active.channels.bk with pulseRemaining := 6 } } }).engaged =
        false := by
  decide +kernel

theorem witness_CodeRules : codeValid 51 = true ∧ codeValid 972 = true ∧ codeValid 50 = false ∧
    codeValid 973 = false ∧ (1 : Nat) < 2 := by decide

/-- A latch set; latches clear in each of the five modes. -/
theorem witness_FaultInputsResult : ((latched .rx).channels.get .rx).latch = true ∧
    ∀ m c, ({ loaded with mode := m }.channels.get c).latch = false :=
  ⟨by decide, fun m c => by cases c <;> rfl⟩

/-- Both channels of each pair, and BK, at their period ends; a phase at its ratio. -/
theorem witness_PeriodResult :
    let end400 := { Channel.reset with mode := .ratio, period := 400, phase := 399, due := .periodEnd }
    let s := { active with
      channels :=
        { bk := { active.channels.bk with phase := 199, due := .periodEnd }
          li := end400, lx := end400, ri := end400, rx := end400 } }
    (∀ c, (s.channels.get c).running = true ∧ (s.channels.get c).due = .periodEnd) ∧
      (active.channels.get .li).running = true ∧
      (active.channels.get .li).activeRatio ≤ (active.channels.get .li).phase :=
  ⟨fun c => by cases c <;> decide, by decide, by decide⟩

/-- ACTIVE with a pull-in of this length left. -/
def pullingIn (n : Nat) (due : Due) : State :=
  { active with
    engaged := false
    channels := { active.channels with bk := { active.channels.bk with pulseRemaining := n, due := due } } }

theorem witness_PulseResult :
    (∀ n due, (pullingIn n due).channels.bk.mode = .engage) ∧
      1 < (pullingIn 2 .nothing).channels.bk.pulseRemaining ∧
      (pullingIn 1 .nothing).channels.bk.pulseRemaining = 1 ∧
      ((pullingIn 0 .pullIn).channels.bk.pulseRemaining = 0 ∧ (pullingIn 0 .pullIn).channels.bk.due = .pullIn) ∧
      (pullingIn 1 .nothing).channels.bk.due ≠ .pullIn :=
  ⟨fun _ _ => rfl, by decide, by decide, by decide, by decide⟩

/-! ### Witnesses: what holds in every state -/

/-- ACTIVE is a state in which all nine parts hold, with BK's output on. -/
theorem active_sound : active.Sound where
  attention := ⟨by decide, by decide⟩
  queues := by
    refine ⟨by decide, by decide, ?_, ?_, ⟨?_, ?_⟩, ?_, ?_⟩
    · intro e h; cases h
    · intro e h; cases h
    · intro h; cases h
    · rintro ⟨e, h, -⟩; cases h
    · intro c h; cases h
    · intro b h; cases h
  valves := fun c => by unfold Channel.Sound; cases c <;> decide
  channels := ⟨rfl, rfl, rfl, rfl, rfl⟩
  periods := fun _ => by unfold PairSound BackupSound; decide
  controller := by unfold State.ControllerSound; decide
  tables := by
    unfold State.TablesSound
    rw [if_neg (by decide)]
    exact ⟨rfl, rfl, rfl, rfl, by decide, tables_fit⟩
  exits := fun h => absurd rfl h
  wheels := fun w => by
    refine ⟨?_, by cases w <;> decide, ?_, by cases w <;> decide⟩
    · have h : active.wheels.get w = WheelRecord.reset := by cases w <;> rfl
      rw [h]
      refine ⟨by decide, by decide, by decide, by decide, by decide, by decide, by decide, ?_, ?_, ?_, ?_, ?_⟩ <;>
        intro p h <;> cases h
    · intro p h; cases w <;> cases h <;> decide

theorem witness_TablesFixedOutsidePass : (∀ straps inputs, Instr.timerStep ≠ .deviceReset straps inputs) ∧
    armed.mode ≠ .pass := ⟨fun _ _ h => (nomatch h), by decide⟩

theorem witness_OutputsOnlyWhereAllowed : active.Sound ∧ active.channels.bk.output = true := ⟨active_sound, rfl⟩

/-- ACTIVE with a control period waiting: its step is that control period. -/
def waiting : State := { active with pending := [.controlPeriodEvent] }

theorem waiting_sound : waiting.Sound :=
  ⟨active_sound.attention, active_sound.queues, active_sound.valves, active_sound.channels, active_sound.periods,
    active_sound.controller, active_sound.tables, active_sound.exits, active_sound.wheels⟩

theorem step_waiting : step waiting = .next (periodOf active) := rfl

theorem witness_StepKeepsSound : waiting.Sound ∧ step waiting = .next (periodOf active) :=
  ⟨waiting_sound, step_waiting⟩

theorem witness_StepKeepsAttentionSound : waiting.AttentionSound := waiting_sound.attention

theorem witness_StepKeepsQueuesSound : waiting.QueuesSound := waiting_sound.queues

theorem witness_StepKeepsChannelsSound : waiting.ValvesSound ∧ waiting.ChannelsFollowMode :=
  ⟨waiting_sound.valves, waiting_sound.channels⟩

theorem witness_StepKeepsPeriodsSound : waiting.PeriodsSound ∧ waiting.ChannelsFollowMode ∧ waiting.TablesSound :=
  ⟨waiting_sound.periods, waiting_sound.channels, waiting_sound.tables⟩

theorem witness_StepKeepsControllerSound : waiting.ControllerSound := waiting_sound.controller

theorem witness_StepKeepsTablesSound : waiting.TablesSound := waiting_sound.tables

theorem witness_StepKeepsWheelsSound : waiting.WheelsFollowMode ∧ waiting.WheelsSound ∧ waiting.TablesSound :=
  ⟨waiting_sound.exits, waiting_sound.wheels, waiting_sound.tables⟩

theorem witness_ResetIsSound (straps : Nat) (inputs : PerChan Bool) :
    ∃ t, exec (.deviceReset straps inputs) active = .next t := ⟨_, rfl⟩

end Sys2Proof.Tests
end

/-! The page map (R148, R150, R184 to R186): how long each page is and which words stand where. -/

namespace Sys2Proof.Machine

/-! ### Lengths and current lengths (R148, R150) -/

theorem Page.ofNumber_eq_none_iff (n : Nat) : Page.ofNumber n = none ↔ (5 ≤ n ∧ n ≤ 7) ∨ 15 ≤ n := by
  fun_cases Page.ofNumber n
  case case13 =>
    simp only [imp_false, true_iff] at *
    omega
  all_goals simp

@[simp] theorem recordWords_length (d : Option DemandRecord) : (recordWords d).length = 5 := by cases d <;> rfl

@[simp] theorem entryWords_length (e : AttentionEntry) : (entryWords e).length = 3 := rfl

theorem attentionWords_length (l : List AttentionEntry) : (attentionWords l).length = 1 + 3 * l.length := by
  simp [attentionWords, List.length_flatMap, Nat.add_comm, Nat.mul_comm]

theorem pageWords_length (s : State) (p : Page) : (s.pageWords p).length = p.length := by
  cases p with
  | identity => simp [State.pageWords, State.identityWords, Page.length]
  | table name => cases name <;> simp [State.pageWords, Tables.words, Page.length]
  | wheels => rfl
  | channels => rfl
  | attention => simp [State.pageWords, Page.length]

/-! ### Page 0 and the tables (R185) -/

/-- A vector's list, word by word. -/
theorem vector_toList_eq_ofFn {α : Type} {n : Nat} (v : Vector α n) : v.toList = List.ofFn fun i : Fin n => v[i] := by
  apply List.ext_getElem <;> simp

/-- Page 0 by its packed words: the service states, the demand record and the optional sequence. -/
theorem pageWords_identity (s : State) : s.pageWords .identity =
    [0x00B7, 0x0418, 0x0001, numberWord s.station, numberWord s.mode.code, s.services.word,
      numberWord s.fallbackCount, numberWord s.reentryCount] ++ recordWords s.record ++
    [sequenceWord s.lastSequence, numberWord (flagBit s.peerSlip 0 + flagBit s.peerNotReady 1),
      numberWord s.notReadyRun] := rfl

/-- The fields of page 1 in the order of their offsets (R166); the three masks are low bytes. -/
theorem axleFields_eq (t : Tables) :
    [t.axleRole, t.ceiling, t.deadband, t.applyGain, t.releaseGain, t.wheelPeriod, t.backupPeriod, t.pullInLength,
      t.holdRatio, t.freshnessSpan, t.fallbackLimit, t.wheelFactor .left, t.wheelFactor .right] =
      (t.axle.toList.take 13).map BitVec.toNat ∧
    [t.peerMask, t.readySense, t.slipSense] = ((t.axle.toList.drop 13).take 3).map lowByte ∧
    [t.soloOption, t.retarderCredit] = (t.axle.toList.drop 16).map BitVec.toNat := by
  rw [vector_toList_eq_ofFn]
  exact ⟨rfl, rfl, rfl⟩

/-- The fields of page 4 in the order of their offsets. -/
theorem slipFields_eq (t : Tables) :
    [t.holdThreshold, t.dumpThreshold, t.reapplyThreshold, t.minimumReference, t.dumpLimit, t.holdLimit,
      t.rebuildStep, t.cycleLimit] = t.slip.toList.map BitVec.toNat := by
  rw [vector_toList_eq_ofFn]
  rfl

/-! ### Pages 12 and 13 (R185) -/

/-- Each Wheel Record has its twelve words of page 12. -/
theorem pageWords_wheels_slice (s : State) (w : Wheel) :
    ((s.pageWords .wheels).drop (if w = .left then 0 else 12)).take 12 =
      wheelWords (s.wheels.get w) s.engaged (s.sense.get w) := by
  cases w <;> rfl

/-- Each channel record has its six words of page 13. -/
theorem pageWords_channels_slice (s : State) (c : Chan) :
    ((s.pageWords .channels).drop (6 * chanNumber c)).take 6 = channelWords (s.channels.get c) := by
  cases c <;> rfl

/-! ### Page 14 (R150, R185) -/

theorem pageWords_attention_head (s : State) :
    (s.pageWords .attention)[0]? = some (numberWord s.attention.length) := rfl

/-- Page 14 reads 0 beyond its current length. -/
theorem pageWords_attention_beyond (s : State) {i : Nat} (hi : i < 34) (h : 1 + 3 * s.attention.length ≤ i) :
    (s.pageWords .attention)[i]? = some 0 := by
  have hlen := attentionWords_length s.attention
  rw [State.pageWords, List.getElem?_take_of_lt hi, List.getElem?_append_right (by omega),
    List.getElem?_replicate_of_lt (by omega)]

/-- Entry `i` of a list has words `3 * i` to `3 * i + 2` of the entries' words. -/
theorem entriesWords_slice (l : List AttentionEntry) (i : Nat) (h : i < l.length) :
    ((l.flatMap entryWords).drop (3 * i)).take 3 = entryWords l[i] := by
  induction l generalizing i with
  | nil => simp at h
  | cons e l ih =>
    cases i with
    | zero => rfl
    | succ i =>
      have hskip : ((e :: l).flatMap entryWords).drop (3 * (i + 1)) = (l.flatMap entryWords).drop (3 * i) := rfl
      rw [hskip, ih i (by simpa using h), List.getElem_cons_succ]

/-- Each of at most eleven entries has its three words of page 14. -/
theorem pageWords_attention_slice (s : State) (i : Nat) (h : i < s.attention.length) (hl : s.attention.length ≤ 11) :
    ((s.pageWords .attention).drop (1 + 3 * i)).take 3 = entryWords s.attention[i] := by
  have hlen := attentionWords_length s.attention
  rw [State.pageWords, List.drop_take, List.take_take, Nat.min_eq_left (by omega),
    List.drop_append_of_le_length (by omega), List.take_append_of_le_length (by rw [List.length_drop]; omega),
    Nat.add_comm 1, attentionWords, List.drop_succ_cons, entriesWords_slice]

/-! ### The obligation -/

/-- Settles O26: the codes by evaluation, each page by the lemma about its words above. -/
theorem pageMapRules : Obligations.PageMapRules := by
  unfold Obligations.PageMapRules
  refine ⟨rfl, fun _ => ⟨rfl, rfl, rfl, rfl⟩, rfl, fun _ => rfl, rfl, rfl, rfl, Page.ofNumber_eq_none_iff,
    pageWords_length, ?identity, ?tables, ?fields, fun _ _ => rfl, fun _ => rfl,
    fun s _ => pageWords_attention_beyond s, ?wheels, ?channels,
    fun s => ⟨pageWords_attention_head s, ?entries⟩⟩
  case identity =>
    intro s
    rw [pageWords_identity]
    cases s.record <;> cases s.lastSequence <;> rfl
  case tables => exact fun s => ⟨rfl, rfl, fun _ => rfl, rfl, rfl⟩
  case fields =>
    intro t
    obtain ⟨hnumbers, hbytes, hlast⟩ := axleFields_eq t
    exact ⟨hnumbers, hbytes, hlast, slipFields_eq t⟩
  case wheels =>
    intro s w
    rw [pageWords_wheels_slice]
    simp only [wheelWords, optionNumber_eq]
    rfl
  case channels =>
    intro s c
    rw [pageWords_channels_slice]
    rfl
  case entries =>
    intro i h hl
    rw [pageWords_attention_slice s i h hl, entryWords]
    cases s.attention[i].firstSeen <;> rfl

end Sys2Proof.Machine

/-! Curves and the chain (chapter 1): the lookup by its breakpoints, and the pressure of a curve that ARM has
passed. -/

namespace Sys2Proof.Machine

/-! ### Interpolation and lookup (R3) -/

/-- The weighted mean of two pressures is the lower one and a share of the rise, truncated once (R3). -/
theorem interpolate_eq {d p e q x : Nat} (hpq : p ≤ q) (hd : d ≤ x) (he : x < e) :
    interpolate d p e q x = p + (q - p) * (x - d) / (e - d) := by
  obtain ⟨rise, rfl⟩ := Nat.exists_eq_add_of_le hpq
  obtain ⟨past, rfl⟩ := Nat.exists_eq_add_of_le hd
  obtain ⟨left, rfl⟩ := Nat.exists_eq_add_of_lt he
  have hwhole : p * (d + past + left + 1 - (d + past)) + (p + rise) * (d + past - d) =
      (d + past + left + 1 - d) * p + rise * past := by
    rw [show d + past + left + 1 - (d + past) = left + 1 by omega, show d + past - d = past by omega,
      show d + past + left + 1 - d = past + (left + 1) by omega]
    ring
  rw [interpolate, hwhole, Nat.mul_add_div (by omega)]
  simp

/-- The interpolation lies between the two pressures. -/
theorem interpolation_le {d p e q x : Nat} (hpq : p ≤ q) (he : x < e) : p + (q - p) * (x - d) / (e - d) ≤ q := by
  have hshare : (q - p) * (x - d) / (e - d) ≤ q - p :=
    Nat.div_le_of_le_mul (by rw [Nat.mul_comm]; exact Nat.mul_le_mul_right _ (by omega))
  omega

theorem lookup_eq_none {points : List (Nat × Nat)} {x : Nat} (h : ∀ a ∈ points, x < a.1) :
    lookup points x = none := by
  induction points with
  | nil => rfl
  | cons a rest ih =>
    have hrest := ih fun b hb => h b (List.mem_cons_of_mem _ hb)
    have ha : ¬a.1 ≤ x := Nat.not_le.2 (h a List.mem_cons_self)
    simp [lookup, hrest, ha]

/-- A breakpoint at or below the demand further on decides the lookup. -/
theorem lookup_cons_of_some {a : Nat × Nat} {rest : List (Nat × Nat)} {x y : Nat} (h : lookup rest x = some y) :
    lookup (a :: rest) x = some y := by
  simp [lookup, h]

theorem lookup_singleton {d p x : Nat} (hd : d ≤ x) : lookup [(d, p)] x = some p := by
  simp [lookup, hd]

/-- At or above one demand and below all that follow: the interpolation between the two breakpoints. -/
theorem lookup_between {d p e q x : Nat} {rest : List (Nat × Nat)} (hd : d ≤ x)
    (h : lookup ((e, q) :: rest) x = none) :
    lookup ((d, p) :: (e, q) :: rest) x = some (interpolate d p e q x) := by
  rw [lookup, h]
  simp [hd]

/-- From the last demand on: the last pressure. -/
theorem lookup_last {points : List (Nat × Nat)} {x i : Nat} (hi : i + 1 = points.length) (hx : points[i].1 ≤ x) :
    lookup points x = some points[i].2 := by
  induction points generalizing i with
  | nil => simp at hi
  | cons a rest ih =>
    cases i with
    | zero =>
      obtain rfl : rest = [] := by simpa using hi
      exact lookup_singleton hx
    | succ i => exact lookup_cons_of_some (ih (by simpa using hi) hx)

/-- Between two demands of a list whose demands rise: the interpolation of the two breakpoints. -/
theorem lookup_inside {points : List (Nat × Nat)} {x i : Nat} (hi : i + 1 < points.length)
    (hs : points.Pairwise fun a b => a.1 < b.1) (hx : points[i].1 ≤ x) (hx' : x < points[i + 1].1) :
    lookup points x = some (interpolate points[i].1 points[i].2 points[i + 1].1 points[i + 1].2 x) := by
  induction points generalizing i with
  | nil => simp at hi
  | cons a rest ih =>
    obtain ⟨-, hrest⟩ := List.pairwise_cons.1 hs
    cases i with
    | zero =>
      cases rest with
      | nil => simp at hi
      | cons b rest =>
        have habove := (List.pairwise_cons.1 hrest).1
        have hb : x < b.1 := hx'
        refine lookup_between hx (lookup_eq_none fun c hc => ?_)
        rcases List.mem_cons.1 hc with rfl | hc
        · exact hb
        · exact hb.trans (habove c hc)
    | succ i => exact lookup_cons_of_some (ih (by simpa using hi) hrest hx hx')

/-- Settles O38: the places by the laws of the page words, the lookup by its two cases above. -/
theorem curveLookupRule : Obligations.CurveLookupRule := by
  unfold Obligations.CurveLookupRule
  refine ⟨fun v => ⟨breakpoints_length v, fun i => breakpoints_getElem? v⟩, fun points x i hi hs hx => ⟨?last, ?inside⟩⟩
  case last => exact fun h => lookup_last h hx
  case inside =>
    intro h hx'
    obtain ⟨-, hp⟩ := List.pairwise_iff_getElem.1 hs i (i + 1) hi h (Nat.lt_succ_self i)
    rw [lookup_inside h (hs.imp And.left) hx hx', interpolate_eq hp hx hx']
    exact ⟨rfl, Nat.le_add_right _ _, interpolation_le hp hx'⟩

/-! ### Curves that ARM has passed (R168) -/

theorem followsBreakpoint_iff_le (d p e q : Nat) :
    followsBreakpoint d p e q = true ↔ d < e ∧ e ≤ 1000 ∧ p ≤ q ∧ q ≤ 1000 := by
  simp [followsBreakpoint, and_assoc]

theorem shapeFaultFrom_cons_eq_none {i d p e q : Nat} {rest : List (Nat × Nat)}
    (h : shapeFaultFrom i d p ((e, q) :: rest) = none) :
    (d < e ∧ e ≤ 1000 ∧ p ≤ q ∧ q ≤ 1000) ∧ shapeFaultFrom (i + 1) e q rest = none := by
  rw [shapeFaultFrom] at h
  split at h
  · exact ⟨(followsBreakpoint_iff_le d p e q).1 ‹_›, h⟩
  · cases h

/-- Below the first demand of a shaped curve there is nothing to look up. -/
theorem lookup_eq_none_of_shape {i d p x : Nat} {rest : List (Nat × Nat)} (hx : x < d)
    (h : shapeFaultFrom i d p rest = none) : lookup ((d, p) :: rest) x = none := by
  induction rest generalizing i d p with
  | nil => exact lookup_eq_none (by simpa using hx)
  | cons b rest ih =>
    obtain ⟨⟨hde, -⟩, hrest⟩ := shapeFaultFrom_cons_eq_none h
    have hb := ih (hx.trans hde) hrest
    have hd : ¬d ≤ x := Nat.not_le.2 hx
    rw [lookup, hb]
    simp [hd]

/-- From the first demand of a shaped curve on, the lookup gives a pressure in range. -/
theorem lookup_le_of_shape {i d p x : Nat} {rest : List (Nat × Nat)} (hx : d ≤ x) (hp : p ≤ 1000)
    (h : shapeFaultFrom i d p rest = none) : ∃ y, lookup ((d, p) :: rest) x = some y ∧ y ≤ 1000 := by
  induction rest generalizing i d p with
  | nil => exact ⟨p, lookup_singleton hx, hp⟩
  | cons b rest ih =>
    obtain ⟨⟨-, -, hpq, hq⟩, hrest⟩ := shapeFaultFrom_cons_eq_none h
    by_cases hb : b.1 ≤ x
    · obtain ⟨y, hy, hle⟩ := ih hb hq hrest
      exact ⟨y, lookup_cons_of_some hy, hle⟩
    · have hb := Nat.lt_of_not_le hb
      refine ⟨_, lookup_between hx (lookup_eq_none_of_shape hb hrest), ?_⟩
      rw [interpolate_eq hpq hx hb]
      exact (interpolation_le hpq hb).trans hq

/-- A curve that passes A7 gives a pressure in range at every demand: its first demand is 0 (R2, R168). -/
theorem lookup_of_curveFault_eq_none {v : Vector Word 25} (h : curveFault v = none) (x : Nat) :
    ∃ y, lookup (breakpoints v) x = some y ∧ y ≤ 1000 := by
  have hlen := breakpoints_length v
  unfold curveFault at h
  split at h
  case isTrue => cases h
  case isFalse hcount =>
    have hcount : 2 ≤ v[0].toNat ∧ v[0].toNat ≤ 12 := 
      (inRange_iff 2 12 (breakpointCount v)).1 (by simpa using hcount)
    cases hb : breakpoints v with
    | nil => rw [hb, List.length_nil] at hlen; omega
    | cons a rest =>
      simp only [hb] at h
      split at h
      case isTrue hfirst =>
        obtain ⟨hd, hp⟩ : a.1 = 0 ∧ a.2 ≤ 1000 := by simpa using hfirst
        exact lookup_le_of_shape (by omega) hp h
      case isFalse => cases h

/-! ### Load bands (R5) -/

theorem loadEntry_of_lt (t : Tables) {band : Nat} (h : band < 8) : loadEntry t band = t.load[band] := dif_pos h

theorem loadEntry_of_le (t : Tables) {band : Nat} (h : 8 ≤ band) : loadEntry t band = t.load[7] :=
  dif_neg (Nat.not_lt.2 h)

theorem loadEntry_mem (t : Tables) (band : Nat) : loadEntry t band ∈ t.load.toList := by
  rcases Nat.lt_or_ge band 8 with h | h
  · rw [loadEntry_of_lt t h]; simp
  · rw [loadEntry_of_le t h]; simp

theorem curvePressure_of_lookup {t : Tables} {c x y : Nat} (hc : c < 4)
    (h : lookup (breakpoints t.curves[c]) x = some y) : curvePressure t c x = y := by
  simp [curvePressure, hc, h]

/-- Settles O39: the band's entry names a curve, which passed A7. -/
theorem curveInServiceAlwaysGives : Obligations.CurveInServiceAlwaysGives := by
  unfold Obligations.CurveInServiceAlwaysGives
  intro t band x hfit
  obtain ⟨-, -, -, -, -, hload, hcurves⟩ := hfit
  have hmem := loadEntry_mem t band
  have hc := (hload _ hmem).1
  have hnamed : curveReferenced t (loadEntry t band).curve.toNat = true :=
    (curveReferenced_iff t _).2 ⟨_, hmem, rfl⟩
  obtain ⟨y, hy, hle⟩ := lookup_of_curveFault_eq_none (hcurves ⟨_, hc⟩ hnamed) x
  exact ⟨hc, y, hy, hle, curvePressure_of_lookup hc hy⟩

/-! ### The chain (R8, R9) -/

theorem demandUsed_eq (t : Tables) (d : DemandRecord) : demandUsed t d =
    if d.retarder ≠ 0 ∧ t.axleRole = 2 then d.demand.toNat - t.retarderCredit else d.demand.toNat := by
  simp [demandUsed]

/-- While a peer slips the cap, or the limited value where there is none yet, bounds the base target (R12). -/
theorem periodBase_of_peerSlip {s : State} (h : s.peerSlip = true) (d : DemandRecord) :
    s.periodBase d = min (chainLimited s.tables d) (s.peerCap.getD (chainLimited s.tables d)) := by
  simp [State.periodBase, peerCapAfter, baseTarget, h]

theorem periodBase_of_not_peerSlip {s : State} (h : s.peerSlip = false) (d : DemandRecord) :
    s.periodBase d = chainLimited s.tables d := by
  simp [State.periodBase, peerCapAfter, baseTarget, h]

/-- Settles O37: each step of the chain by its own lemma or definition, the base target by whether a peer slips. -/
theorem chainRules : Obligations.ChainRules := by
  unfold Obligations.ChainRules
  refine ⟨demandUsed_eq, fun t _ => loadEntry_of_lt t, fun t _ => loadEntry_of_le t,
    fun _ _ => ⟨rfl, rfl, rfl, rfl⟩, fun _ _ => rfl, fun _ _ => rfl, fun s d => ?base⟩
  case base =>
    cases hslip : s.peerSlip with
    | false => exact periodBase_of_not_peerSlip hslip d
    | true =>
      rw [periodBase_of_peerSlip hslip]
      cases s.peerCap with
      | none => exact Nat.min_self _
      | some cap => rfl

end Sys2Proof.Machine

/-! The control period in ACTIVE (R50): its effect apart from its raises, and what those are. -/

namespace Sys2Proof.Machine

/-! ### The effect without the raises -/

/-- The Wheel Record that a control period in ACTIVE gives a wheel (R36). -/
def State.periodWheel (s : State) (w : Wheel) : WheelRecord :=
  wheelWork s.tables s.recordRead (s.periodBase s.recordRead) w (s.teeth.get w) (s.takeInputs.wheels.get w)

/-- What a control period in ACTIVE writes, apart from the attention list (R50). -/
def State.controlled (s : State) : State :=
  let engaged := s.engaged || s.channels.bk.inHold
  let wheels : PerWheel WheelRecord := { left := s.periodWheel .left, right := s.periodWheel .right }
  { s with
    teeth := { left := 0, right := 0 }
    wheels := wheels
    engaged := engaged
    peerCap := peerCapAfter s.peerCap s.peerSlip (chainLimited s.tables s.recordRead)
    channels := writeRatios s.tables engaged wheels s.channels }

/-- What a control period in ACTIVE raises for one wheel (R30, R32). -/
def State.raisePeriod (s u : State) (w : Wheel) : State :=
  u.raiseWheel s.tables w (s.takeInputs.wheels.get w) (s.periodWheel w)

@[simp] theorem controlled_wheels_get (s : State) (w : Wheel) : s.controlled.wheels.get w = s.periodWheel w := by
  cases w <;> rfl

theorem recordRead_of_record {s : State} {d : DemandRecord} (h : s.record = some d) : s.recordRead = d := by
  simp [State.recordRead, h]

/-- The work of a wheel raises in the attention list and changes nothing else. -/
theorem raiseWheel_eq (s : State) (t : Tables) (w : Wheel) (old new : WheelRecord) :
    s.raiseWheel t w old new = { s with attention := (s.raiseWheel t w old new).attention } := by
  unfold State.raiseWheel
  split <;> split <;> rfl

theorem raisePeriod_eq (s u : State) (w : Wheel) :
    s.raisePeriod u w = { u with attention := (s.raisePeriod u w).attention } := raiseWheel_eq _ _ _ _ _

@[simp] theorem raisePeriod_wheels (s u : State) (w : Wheel) : (s.raisePeriod u w).wheels = u.wheels := by
  rw [raisePeriod_eq]

@[simp] theorem raisePeriod_lastRollSequence (s u : State) (w : Wheel) :
    (s.raisePeriod u w).lastRollSequence = u.lastRollSequence := by
  rw [raisePeriod_eq]

/-- The raises of a wheel's work and what else a control period writes come in either order. -/
theorem raiseWheel_with (s : State) (t : Tables) (w : Wheel) (old new : WheelRecord) (wheels : PerWheel WheelRecord)
    (engaged : Bool) (cap : Option Nat) (channels : PerChan Channel) :
    { s with wheels := wheels, engaged := engaged, peerCap := cap, channels := channels }.raiseWheel t w old new =
      { s.raiseWheel t w old new with
        wheels := wheels, engaged := engaged, peerCap := cap, channels := channels } := by
  unfold State.raiseWheel
  split <;> split <;> rfl

/-- A control period in ACTIVE: what it writes, then its raises, the left wheel first (R36, R50). -/
theorem exec_controlPeriod_active {s : State} (h : s.mode = .active) :
    exec .controlPeriodEvent s = .next (s.raisePeriod (s.raisePeriod s.controlled .left) .right) := by
  show execControlPeriodEvent s = _
  rw [execControlPeriodEvent, if_pos h, State.modulate]
  rw [← raiseWheel_with, ← raiseWheel_with]
  rfl

theorem controlPeriod_wheels {s t : State} (h : s.mode = .active) (ht : exec .controlPeriodEvent s = .next t)
    (w : Wheel) : t.wheels.get w = s.periodWheel w := by
  rw [exec_controlPeriod_active h] at ht
  injection ht with ht
  rw [← ht, raisePeriod_wheels, raisePeriod_wheels, controlled_wheels_get]

/-! ### The raises -/

/-- What is raised depends on the list and on the last roll sequence only (R174, R175). -/
theorem raiseWheel_attention_congr {s u : State} (t : Tables) (w : Wheel) (old new : WheelRecord)
    (ha : s.attention = u.attention) (hr : s.lastRollSequence = u.lastRollSequence) :
    (s.raiseWheel t w old new).attention = (u.raiseWheel t w old new).attention := by
  unfold State.raiseWheel
  split <;> split <;> simp only [State.raise_attention, State.raise_lastRollSequence, ha, hr]

theorem raisePeriod_attention_congr (s : State) {u v : State} (w : Wheel) (ha : u.attention = v.attention)
    (hr : u.lastRollSequence = v.lastRollSequence) :
    (s.raisePeriod u w).attention = (s.raisePeriod v w).attention :=
  raiseWheel_attention_congr _ _ _ _ ha hr

/-- A transition into DUMP by the codes of R184. -/
theorem entersDump_iff (old new : SlipState) : entersDump old new = true ↔ new.code = 2 ∧ old.code ≠ 2 := by
  cases old <;> cases new <;> simp [entersDump, SlipState.code]

theorem exhausts_iff (t : Tables) (old new : WheelRecord) : exhausts t old new = true ↔
    new.slipState.code = 2 ∧ old.slipState.code ≠ 2 ∧ old.cycleCount < new.cycleCount ∧
      new.cycleCount = t.cycleLimit := by
  simp [exhausts, entersDump_iff, and_assoc]

/-- What a period raises for a wheel, in the words of R30 and R32. -/
theorem raisePeriod_eq_ite (s u : State) (w : Wheel) : s.raisePeriod u w =
    (let v :=
      if (s.wheels.get w).speedFault = false ∧ (s.periodWheel w).speedFault = true then
        u.raise .speedFault (wheelDetail w)
      else u
     if (s.periodWheel w).slipState.code = 2 ∧ (s.wheels.get w).slipState.code ≠ 2 ∧
        (s.wheels.get w).cycleCount < (s.periodWheel w).cycleCount ∧
          (s.periodWheel w).cycleCount = s.tables.cycleLimit then
      v.raise .slipExhausted (wheelDetail w)
     else v) := by
  have hfault : (s.takeInputs.wheels.get w).speedFault = (s.wheels.get w).speedFault := by cases w <;> rfl
  have hexhausts : exhausts s.tables (s.takeInputs.wheels.get w) (s.periodWheel w) =
      exhausts s.tables (s.wheels.get w) (s.periodWheel w) := by cases w <;> rfl
  simp only [State.raisePeriod, State.raiseWheel, hfault, hexhausts, Bool.and_eq_true, Bool.not_eq_true', exhausts_iff]

/-! ### The wheel work (R36) -/

theorem periodWheel_measured (s : State) (w : Wheel) :
    (s.periodWheel w).measured = (s.latestValid.get w).getD 0 := by
  rw [← optionNumber_eq]
  unfold State.periodWheel wheelWork targetWork slipWork speedWork speedFaultStep
  cases w <;> dsimp only <;> split <;> (try split) <;> rfl

/-- The target of R13, by the slip state and the cap that the period leaves. -/
theorem periodWheel_target (s : State) (w : Wheel) : (s.periodWheel w).target =
    min (cappedTarget (s.periodBase s.recordRead) (s.periodWheel w)) s.tables.ceiling := rfl

theorem periodWheel_clipped (s : State) (w : Wheel) : (s.periodWheel w).clipped = true ↔
    s.tables.ceiling < chainScaled s.tables s.recordRead ∨
      s.tables.ceiling < cappedTarget (s.periodBase s.recordRead) (s.periodWheel w) := by
  show (decide _ || decide _) = true ↔ _
  rw [Bool.or_eq_true, decide_eq_true_iff, decide_eq_true_iff]
  rfl

/-! ### The obligations -/

/-- Settles O43: the target and the clipped flag by the slip state and the cap that the period leaves. -/
theorem targetRules : Obligations.TargetRules := by
  unfold Obligations.TargetRules
  intro s t d w hm hd ht
  have hread := recordRead_of_record hd
  have htarget := periodWheel_target s w
  have hclipped := periodWheel_clipped s w
  rw [hread] at htarget hclipped
  rw [controlPeriod_wheels hm ht w]
  dsimp only
  rw [htarget, hclipped, cappedTarget]
  cases (s.periodWheel w).exhaustionCap <;> cases (s.periodWheel w).slipState <;> exact ⟨rfl, Iff.rfl⟩

/-- Settles O36: what the period writes, then its raises in the words of R30 and R32. -/
theorem controlPeriodInActive : Obligations.ControlPeriodInActive := by
  unfold Obligations.ControlPeriodInActive
  intro s d hm hd
  refine ⟨_, exec_controlPeriod_active hm, ?frame, ?measured, ?engaged, ?cap, ?bk, ?raises⟩
  case frame => rw [raisePeriod_eq, raisePeriod_eq]; rfl
  case measured => intro w; simp [periodWheel_measured]
  case engaged => rw [raisePeriod_eq, raisePeriod_eq]; rfl
  case cap =>
    rw [raisePeriod_eq, raisePeriod_eq]
    show peerCapAfter s.peerCap s.peerSlip (chainLimited s.tables s.recordRead) = _
    rw [recordRead_of_record hd, peerCapAfter]
    cases s.peerCap <;> rfl
  case bk => rw [raisePeriod_eq, raisePeriod_eq]; rfl
  case raises =>
    simp only [raisePeriod_wheels, controlled_wheels_get]
    calc (s.raisePeriod (s.raisePeriod s.controlled .left) .right).attention
        = (s.raisePeriod (s.raisePeriod s .left) .right).attention :=
          raisePeriod_attention_congr s .right (raisePeriod_attention_congr s .left rfl rfl) (by simp; rfl)
      _ = _ := by rw [raisePeriod_eq_ite s _ .right, raisePeriod_eq_ite s s .left]; rfl

end Sys2Proof.Machine

/-! What a command can do, said once: every command is a run of the changes listed here, each of which keeps every
part of `State.Sound`. Where the model breaks a part between two acts of one event (an input set before its latch, a
sense FAULT before its claim), the change does both at once. -/

namespace Sys2Proof.Machine

/-! ### The changes -/

/-- What an event of the valve channels can do to one channel (R57 to R65, R72). -/
inductive ChannelMove (c : Channel) : Channel → Prop
  | same : ChannelMove c c
  | count : ChannelMove c c.count
  | endPeriod (due : c.periodDue = true) : ChannelMove c c.endPeriod
  | onTimeEnd (running : c.running = true) (reached : c.activeRatio ≤ c.phase) :
      ChannelMove c { c with output := false }
  | stepPullIn : ChannelMove c c.stepPullIn
  | completePullIn : ChannelMove c c.completePullIn
  | stepPulse : ChannelMove c c.stepPulse
  | completePulse : ChannelMove c c.completePulse
  | writePending (ratio : Nat) : ChannelMove c (c.writePending ratio)

/-- What an event of the valve channels can do to the five records (R58 to R65, R72). -/
inductive ChannelEvent (p : PerChan Channel) : PerChan Channel → Prop
  | count : ChannelEvent p (p.map Channel.count)
  | leftEnd : ChannelEvent p { p with li := (endPair p.li p.lx).1, lx := (endPair p.li p.lx).2 }
  | rightEnd : ChannelEvent p { p with ri := (endPair p.ri p.rx).1, rx := (endPair p.ri p.rx).2 }
  | onTimeEnd (c : Chan) (running : (p.get c).running = true) (reached : (p.get c).activeRatio ≤ (p.get c).phase) :
      ChannelEvent p (p.set c { p.get c with output := false })
  | backupEnd (due : p.bk.periodDue = true) : ChannelEvent p { p with bk := p.bk.endPeriod }
  | stepPullIn : ChannelEvent p { p with bk := p.bk.stepPullIn }
  | completePullIn : ChannelEvent p { p with bk := p.bk.completePullIn }
  | stepPulse : ChannelEvent p (p.map Channel.stepPulse)
  | completePulse : ChannelEvent p (p.map Channel.completePulse)

/-- A code judged, without the raise and the claim of the entry to FAULT (R43 to R45). -/
def State.judged (s : State) (w : Wheel) (code : Nat) : State :=
  { s with
    sense := s.sense.set w (senseAfter code (s.sense.get w))
    latestValid := s.latestValid.set w (latestAfter code (s.sense.get w) (s.latestValid.get w)) }

/-- An asserted input with its latch set and its channel OFF, without the raise and the claim (R69). -/
def State.latchedOff (s : State) (c : Chan) : State :=
  { s with
    channels := s.channels.set c { Channel.reset with latch := true }
    faultInputs := s.faultInputs.set c true }

/-- The unit after device reset before the raises of the asserted inputs (R74, R187). -/
def State.powered (s : State) (straps : Nat) (inputs : PerChan Bool) : State :=
  { State.reset with
    station := straps
    faultInputs := inputs
    channels := inputs.map fun asserted => { Channel.reset with latch := asserted }
    pending := s.pending }

/-- The changes of a state in which the frame path has no part. -/
inductive BlockChange (s : State) : State → Prop
  | raise (k : AttentionKind) (detail : Nat) (small : detail ≤ 15) : BlockChange s (s.raise k detail)
  | acknowledge (k : AttentionKind) : BlockChange s { s with attention := removeKind k s.attention }
  | timerStep (r : Nat) (runs : s.timer = .running r) : BlockChange s { s with timer := .running (r - 1) }
  | preset (runs : s.timer = .running 0) :
      BlockChange s { s with timer := .running s.tables.freshnessSpan, reentryCount := 0, lastSequence := none }
  | takeRecord (d : DemandRecord) (takes : s.mode.takesDemand = true) : BlockChange s (s.takeRecord d)
  | evaluatePeers (f : Frame) : BlockChange s (s.evaluatePeers f)
  | enterActive (present : s.record.isSome = true) (clear : s.takeoverClear = true)
      (mode : s.mode = .armed ∨ s.mode = .fallback) : BlockChange s s.enterActive
  | fallBack (mode : s.mode = .active) (below : s.fallbackCount + 1 ≠ s.tables.fallbackLimit) :
      BlockChange s (s.leftFor .fallback (s.fallbackCount + 1) s.timer)
  | isolateActive (mode : s.mode = .active) : BlockChange s (s.leftFor .isolated (s.fallbackCount + 1) .held)
  | isolate (mode : s.mode = .armed ∨ s.mode = .fallback) : BlockChange s { s with mode := .isolated, timer := .held }
  | arm (mode : s.mode = .pass) (passes : s.armFailure = none) : BlockChange s s.armed
  | disarmActive (mode : s.mode = .active) :
      BlockChange s { s.leaveActive with mode := .pass, services := s.services.release, timer := .held }
  | disarm (mode : s.mode ≠ .pass) (inactive : s.mode ≠ .active) :
      BlockChange s
        { s.forcedOff with mode := .pass, services := s.services.release, timer := .held, reentryCount := 0 }
  | clearBlocks : BlockChange s s.clearBlocks
  | storeWords (name : TableName) (r : Request) (mode : s.mode = .pass) : BlockChange s (s.storeWords name r)
  | control (mode : s.mode = .active) : BlockChange s s.controlled
  | takeInputs (mode : s.mode ≠ .active) : BlockChange s s.takeInputs
  | toothEdge (w : Wheel) :
      BlockChange s { s with teeth := s.teeth.set w (if s.teeth.get w < 255 then s.teeth.get w + 1 else 255) }
  | judge (w : Wheel) (code : Nat)
      (claimed : s.mode = .active → (!(s.sense.get w).isFault && (senseAfter code (s.sense.get w)).isFault) = false) :
      BlockChange s (s.judged w code)
  | assertAgain (c : Chan) (latched : (s.channels.get c).latch = true) :
      BlockChange s { s with faultInputs := s.faultInputs.set c true }
  | latch (c : Chan) (mode : s.mode ≠ .active) : BlockChange s (s.latchedOff c)
  | deassert (c : Chan) : BlockChange s { s with faultInputs := s.faultInputs.set c false }
  | rearm (c : Chan) (deasserted : s.faultInputs.get c = false) :
      BlockChange s { s with channels := s.channels.set c (s.channels.get c).clearLatch }
  | startPulse (c : Chan) (length : Nat) (mode : s.mode = .pass) (idle : ∀ d, (s.channels.get d).mode ≠ .pulse)
      (clear : (s.channels.get c).latch = false) :
      BlockChange s { s with channels := s.channels.set c ((s.channels.get c).startPulse length) }
  | channels (p : PerChan Channel) (event : ChannelEvent s.channels p) : BlockChange s { s with channels := p }

/-- The changes of the frame path (chapter 8). -/
inductive QueueChange (s : State) : State → Prop
  | reserve (ready : s.receiver = .ready) (free : s.receiveQueue.length < 4) :
      QueueChange s { s with receiver := .receiving, receiveQueue := s.receiveQueue ++ [RxEntry.reserved] }
  | ignore (ready : s.receiver = .ready) : QueueChange s { s with receiver := .ignoring }
  | idle (waits : s.receiver = .awaitIdle ∨ s.receiver = .ignoring) : QueueChange s { s with receiver := .ready }
  | store (e : RxEntry) (inFlight : s.inFlight = some e) (data : Byte) (stopAtMark : Bool) :
      QueueChange s { s with receiveQueue := updateLast (fun e => e.store data stopAtMark) s.receiveQueue }
  | finish (e : RxEntry) (inFlight : s.inFlight = some e) (held : e.bytes ≠ []) :
      QueueChange s
        { s with receiver := .ready, receiveQueue := updateLast (fun e => e.finish e.idleTag) s.receiveQueue }
  | overlong (e : RxEntry) (inFlight : s.inFlight = some e) (full : e.bytes.length = 80) :
      QueueChange s
        { s with receiver := .ignoring, receiveQueue := updateLast (fun e => e.finish .overlong) s.receiveQueue }
  | passOn (e : RxEntry) (rest : List RxEntry) (content : List Byte) (takes : s.CanTake e rest)
      (fits : e.Sound → contentFits content) : QueueChange s (s.passOn rest content)
  | transmit (content : List Byte) (rest : List (List Byte)) (head : s.transmitQueue = content :: rest) :
      QueueChange s { s with sending := some (withCheckCode content), transmitQueue := rest }
  | sent : QueueChange s { s with sending := none }

/-- A change of the blocks, one of the frame path, or the device reset. -/
inductive Effect (s : State) : State → Prop
  | block (t : State) (change : BlockChange s t) : Effect s t
  | queue (t : State) (change : QueueChange s t) : Effect s t
  | reset (straps : Nat) (inputs : PerChan Bool) : Effect s (s.powered straps inputs)

/-- A run of changes of the blocks. -/
abbrev Changes : State → State → Prop := Relation.ReflTransGen BlockChange

/-- A run of effects. -/
abbrev Effects : State → State → Prop := Relation.ReflTransGen Effect

theorem BlockChange.changes {s t : State} (h : BlockChange s t) : Changes s t := .single h

theorem QueueChange.effects {s t : State} (h : QueueChange s t) : Effects s t := .single (.queue _ h)

theorem Changes.effects {s t : State} (h : Changes s t) : Effects s t := h.lift id fun _ _ => .block _

/-! ### The blocks leave the queues alone -/

theorem BlockChange.queues {s t : State} (h : BlockChange s t) : t.receiveQueue = s.receiveQueue ∧
    t.transmitQueue = s.transmitQueue ∧ t.receiver = s.receiver ∧ t.sending = s.sending := by
  cases h <;> exact ⟨rfl, rfl, rfl, rfl⟩

theorem Changes.queues {s t : State} (h : Changes s t) : t.receiveQueue = s.receiveQueue ∧
    t.transmitQueue = s.transmitQueue ∧ t.receiver = s.receiver ∧ t.sending = s.sending := by
  induction h with
  | refl => exact ⟨rfl, rfl, rfl, rfl⟩
  | tail _ hstep ih =>
    obtain ⟨h1, h2, h3, h4⟩ := hstep.queues
    obtain ⟨g1, g2, g3, g4⟩ := ih
    exact ⟨h1.trans g1, h2.trans g2, h3.trans g3, h4.trans g4⟩

/-! ### Claims and raises -/

theorem raise_changes (s : State) (k : AttentionKind) {detail : Nat} (h : detail ≤ 15) :
    Changes s (s.raise k detail) :=
  (BlockChange.raise k detail h).changes

theorem fallenBack_changes {s : State} (h : s.mode = .active) : Changes s s.fallenBack := by
  obtain ⟨-, hto⟩ | ⟨hbelow, hto⟩ := fallenBack_cases s <;> rw [hto]
  · exact (BlockChange.isolateActive h).changes
  · exact (BlockChange.fallBack h hbelow).changes

theorem fallenBack_mode_ne (s : State) : s.fallenBack.mode ≠ .active := by
  obtain ⟨-, h⟩ | ⟨-, h⟩ := fallenBack_cases s <;> simp [h]

theorem faultClaim_changes (s : State) : Changes s s.faultClaim := by
  rw [faultClaim_eq]
  split
  case isTrue h => exact fallenBack_changes h
  case isFalse => exact .refl

theorem faultClaim_mode_ne (s : State) : s.faultClaim.mode ≠ .active := by
  rw [faultClaim_eq]
  split
  case isTrue => exact fallenBack_mode_ne s
  case isFalse h => exact h

theorem peerNotReadyClaim_changes (s : State) : Changes s s.peerNotReadyClaim := by
  rw [peerNotReadyClaim_eq]
  split
  case isTrue h => exact fallenBack_changes h.1
  case isFalse => exact .refl

theorem backupClaim_changes (s : State) : Changes s s.backupClaim := by
  obtain ⟨hm, h⟩ | ⟨hm, h⟩ | ⟨-, h⟩ := backupClaim_cases s <;> rw [h]
  · exact (BlockChange.isolateActive hm).changes
  · exact (BlockChange.isolate hm).changes

theorem backupClaim_mode_ne (s : State) : s.backupClaim.mode ≠ .active := by
  obtain ⟨-, h⟩ | ⟨-, h⟩ | ⟨hm, h⟩ := backupClaim_cases s <;> rw [h]
  · simp
  · simp
  · rcases hm with hm | hm <;> simp [hm]

theorem latchClaim_changes (s : State) (c : Chan) : Changes s (s.latchClaim c) := by
  cases c with
  | bk => exact backupClaim_changes s
  | _ => exact faultClaim_changes s

theorem latchClaim_mode_ne (s : State) (c : Chan) : (s.latchClaim c).mode ≠ .active := by
  cases c with
  | bk => exact backupClaim_mode_ne s
  | _ => exact faultClaim_mode_ne s

theorem raiseLatch_changes (s : State) (c : Chan) : Changes s (s.raiseLatch c) := by
  cases c <;> exact raise_changes s _ (by decide)

theorem raisePeriod_changes (s u : State) (w : Wheel) : Changes u (s.raisePeriod u w) := by
  have hw : wheelDetail w ≤ 15 := by cases w <;> decide
  rw [raisePeriod_eq_ite]
  dsimp only
  split <;> split
  · exact (raise_changes u _ hw).trans (raise_changes _ _ hw)
  · exact raise_changes u _ hw
  · exact raise_changes u _ hw
  · exact .refl

/-! ### The order of the acts of one event -/

theorem faultClaim_judged (s : State) (w : Wheel) (code : Nat) :
    (s.judged w code).faultClaim = s.faultClaim.judged w code := by
  rw [faultClaim_eq, faultClaim_eq]
  show (if s.mode = .active then _ else _) = _
  unfold State.fallenBack
  split
  · show (if s.fallbackCount + 1 = s.tables.fallbackLimit then _ else _) = _
    split <;> rfl
  · rfl

/-- A code that takes a wheel to FAULT: the raise, the claim, and the code judged (R44). -/
theorem judgeCode_eq (s : State) (w : Wheel) (code : Nat) : s.judgeCode w code =
    if (!(s.sense.get w).isFault && (senseAfter code (s.sense.get w)).isFault) = true then
      (s.raise .senseFault (senseDetail w)).faultClaim.judged w code
    else s.judged w code := by
  rw [← faultClaim_judged]
  rfl

theorem leftFor_latchedOff (s : State) (c : Chan) (mode : Mode) (count : Nat) (timer : Timer) :
    (s.latchedOff c).leftFor mode count timer = (s.leftFor mode count timer).latchedOff c := by
  cases c <;> rfl

theorem fallenBack_latchedOff (s : State) (c : Chan) : (s.latchedOff c).fallenBack = s.fallenBack.latchedOff c := by
  unfold State.fallenBack
  show (if s.fallbackCount + 1 = s.tables.fallbackLimit then _ else _) = _
  split <;> exact leftFor_latchedOff s c _ _ _

theorem faultClaim_latchedOff (s : State) (c : Chan) : (s.latchedOff c).faultClaim = s.faultClaim.latchedOff c := by
  rw [faultClaim_eq, faultClaim_eq]
  show (if s.mode = .active then _ else _) = _
  split
  · exact fallenBack_latchedOff s c
  · rfl

/-- A latch claim of BK by the mode it meets (R84). -/
theorem backupClaim_eq (s : State) : s.backupClaim =
    if s.mode = .active then s.leftFor .isolated (s.fallbackCount + 1) .held
    else if s.mode = .armed ∨ s.mode = .fallback then { s with mode := .isolated, timer := .held }
    else s := by
  obtain ⟨hm, h⟩ | ⟨hm, h⟩ | ⟨hm, h⟩ := backupClaim_cases s <;> rw [h]
  · rw [if_pos hm]
  · rw [if_neg (by rcases hm with hm | hm <;> simp [hm]), if_pos hm]
  · rw [if_neg, if_neg] <;> rcases hm with hm | hm <;> simp [hm]

theorem backupClaim_latchedOff (s : State) (c : Chan) :
    (s.latchedOff c).backupClaim = s.backupClaim.latchedOff c := by
  rw [backupClaim_eq, backupClaim_eq]
  show (if s.mode = .active then _ else if s.mode = .armed ∨ s.mode = .fallback then _ else _) = _
  split
  · exact leftFor_latchedOff s c _ _ _
  · split <;> rfl

theorem latchClaim_latchedOff (s : State) (c : Chan) :
    (s.latchedOff c).latchClaim c = (s.latchClaim c).latchedOff c := by
  cases c with
  | bk => exact backupClaim_latchedOff s _
  | _ => exact faultClaim_latchedOff s _

/-- A fault input's assertion: the level alone where the latch is set, else the raise, the claim and the latch (R69). -/
theorem assertInput_eq (s : State) (c : Chan) : s.assertInput c =
    if (s.channels.get c).latch = true then { s with faultInputs := s.faultInputs.set c true }
    else ((s.raiseLatch c).latchClaim c).latchedOff c := by
  rw [← latchClaim_latchedOff]
  cases c <;> rfl

/-- What the latch-set event of an asserted input raises at device reset (R74). -/
def State.raiseAsserted (s : State) (inputs : PerChan Bool) (c : Chan) : State :=
  if inputs.get c then s.raiseLatch c else s

@[simp] theorem raiseLatch_mode (s : State) (c : Chan) : (s.raiseLatch c).mode = s.mode := by cases c <;> rfl

@[simp] theorem raiseAsserted_mode (s : State) (inputs : PerChan Bool) (c : Chan) :
    (s.raiseAsserted inputs c).mode = s.mode := by
  unfold State.raiseAsserted
  split <;> simp

@[simp] theorem raiseAsserted_faultInputs (s : State) (inputs : PerChan Bool) (c : Chan) :
    (s.raiseAsserted inputs c).faultInputs = s.faultInputs := by
  unfold State.raiseAsserted
  cases c <;> split <;> rfl

theorem latchClaim_of_pass {s : State} (h : s.mode = .pass) (c : Chan) : s.latchClaim c = s := by
  cases c <;> simp [State.latchClaim, State.backupClaim, State.faultClaim, h]

/-- The state with other channel records and another queue of commands, which no raise reads. -/
def State.withChannels (s : State) (p : PerChan Channel) (q : List Instr) : State :=
  { s with channels := p, pending := q }

theorem raiseAsserted_withChannels (s : State) (p : PerChan Channel) (q : List Instr) (inputs : PerChan Bool)
    (c : Chan) : (s.withChannels p q).raiseAsserted inputs c = (s.raiseAsserted inputs c).withChannels p q := by
  unfold State.raiseAsserted
  cases c <;> split <;> rfl

/-- The latch-set event of one channel at device reset, in which the claim changes nothing (R74). -/
theorem resetLatch_withChannels {s : State} {p : PerChan Channel} {q : List Instr} {c : Chan} (hm : s.mode = .pass)
    (hc : p.get c = Channel.reset) : (s.withChannels p q).resetLatch c =
      (s.raiseAsserted s.faultInputs c).withChannels
        (p.set c { Channel.reset with latch := s.faultInputs.get c }) q := by
  unfold State.resetLatch State.raiseAsserted
  show (if s.faultInputs.get c = true then _ else _) = _
  cases s.faultInputs.get c with
  | false =>
    have hset : p.set c Channel.reset = p := by rw [← hc]; cases c <;> rfl
    show s.withChannels p q = s.withChannels (p.set c Channel.reset) q
    rw [hset]
  | true =>
    show ((s.withChannels _ q).raiseLatch c).latchClaim c = _
    rw [latchClaim_of_pass (by rw [raiseLatch_mode]; exact hm)]
    cases c <;> rfl

/-- The latch-set events of all asserted inputs at device reset, in channel order (R74). -/
theorem resetLatches_eq {s : State} (q : List Instr) (hm : s.mode = .pass) :
    (((((s.withChannels (.all Channel.reset) q).resetLatch .bk).resetLatch .li).resetLatch .lx).resetLatch
        .ri).resetLatch .rx =
      (((((s.raiseAsserted s.faultInputs .bk).raiseAsserted s.faultInputs .li).raiseAsserted s.faultInputs
        .lx).raiseAsserted s.faultInputs .ri).raiseAsserted s.faultInputs .rx).withChannels
          (s.faultInputs.map fun asserted => { Channel.reset with latch := asserted }) q := by
  rw [resetLatch_withChannels hm rfl, resetLatch_withChannels (by simpa using hm) rfl,
    resetLatch_withChannels (by simpa using hm) rfl, resetLatch_withChannels (by simpa using hm) rfl,
    resetLatch_withChannels (by simpa using hm) rfl]
  simp only [raiseAsserted_faultInputs]
  rfl

/-- Device reset leaves the powered state with the raises of its asserted inputs (R74, R187). -/
theorem afterReset_eq (s : State) (straps : Nat) (inputs : PerChan Bool) :
    { State.afterReset straps inputs with pending := s.pending } =
      (((((s.powered straps inputs).raiseAsserted inputs .bk).raiseAsserted inputs .li).raiseAsserted inputs
        .lx).raiseAsserted inputs .ri).raiseAsserted inputs .rx := by
  have hreset : State.afterReset straps inputs = _ := resetLatches_eq (s := s.powered straps inputs) [] rfl
  have hpowered : (s.powered straps inputs).withChannels
      (inputs.map fun asserted => { Channel.reset with latch := asserted }) s.pending = s.powered straps inputs := rfl
  conv_rhs => rw [← hpowered]
  simp only [raiseAsserted_withChannels]
  rw [hreset]
  rfl

theorem raiseAsserted_changes (s : State) (inputs : PerChan Bool) (c : Chan) :
    Changes s (s.raiseAsserted inputs c) := by
  unfold State.raiseAsserted
  split
  · exact raiseLatch_changes s c
  · exact .refl

end Sys2Proof.Machine

/-! Every command is a run of the effects: the takes by their rows, then the other commands. -/

namespace Sys2Proof.Machine

/-! ### What the handling of a taken entry may do -/

/-- The handling `r` of the entry `e`: changes of the blocks, and a frame that fits the Transmit Queue. -/
structure Handles (s : State) (e : RxEntry) (r : State × List Byte) : Prop where
  changes : Changes s r.1
  fits : e.Sound → contentFits r.2

/-- Only a COMPLETE entry goes to a row other than DAMAGED_FRAME_FORWARD (R132). -/
theorem ending_of_rowOf {station : Nat} {kind : KindTag} {ending : EndTag} {f : Frame} {row : TakeRow}
    (h : rowOf station kind ending f = row) (hne : row ≠ .damagedFrameForward) : ending = .complete := by
  cases ending with
  | complete => rfl
  | _ => exact absurd h.symm hne

/-- A row that dispatches to a block has a source of 15 or less (R133). -/
theorem source_of_rowOf {station : Nat} {kind : KindTag} {ending : EndTag} {f : Frame} {row : TakeRow}
    (h : rowOf station kind ending f = row) (hd : row ≠ .damagedFrameForward) (hu : row ≠ .forwardUnchanged) :
    f.source.toNat ≤ 15 := by
  obtain rfl := ending_of_rowOf h hd
  by_contra hs
  refine hu (h.symm.trans ?_)
  simp [rowOf, Nat.lt_of_not_le hs]

/-- A COMPLETE entry holds 6 to 80 bytes, so its content fits (R128, R134). -/
theorem RxEntry.Sound.content_fits {e : RxEntry} {kind : KindTag} (h : e.Sound)
    (hs : e.status = .finished kind .complete) : contentFits (contentOf e.bytes) := by
  obtain ⟨hle, hfinished⟩ := h
  obtain ⟨-, -, htag⟩ := hfinished _ _ hs
  have hge := six_le_of_idleTag (htag rfl)
  simp only [contentFits, contentOf, List.length_take]
  omega

/-- The fields of a COMPLETE entry stand for its content (R180). -/
theorem RxEntry.Sound.frameOf_content {e : RxEntry} {kind : KindTag} (h : e.Sound)
    (hs : e.status = .finished kind .complete) : (frameOf e).content = contentOf e.bytes :=
  Frame.content_ofContent (h.content_fits hs).1

/-- A frame whose body keeps the length of the one received fits as that one does. -/
theorem RxEntry.Sound.fits_of_body_length {e : RxEntry} {kind : KindTag} (h : e.Sound)
    (hs : e.status = .finished kind .complete) {f : Frame} (hf : f.body.length = (frameOf e).body.length) :
    contentFits f.content := by
  have hfits := h.content_fits hs
  rw [← h.frameOf_content hs] at hfits
  simpa only [contentFits, Frame.content_length, hf] using hfits

/-- A take by its row: nothing, or the handling of the head and its passing on (R131). -/
theorem take_effects {s : State} {row : TakeRow} {handle : RxEntry → State → State × List Byte}
    (h : ∀ e kind ending, e.status = .finished kind ending → rowOf s.station kind ending (frameOf e) = row →
      Handles s e (handle e s)) : Effects s (s.take row handle) := by
  obtain hidle | ⟨e, rest, kind, ending, hc, he, hr, htake⟩ := take_cases s row handle
  · rw [hidle]
  · obtain ⟨hchanges, hfits⟩ := h e kind ending he hr
    obtain ⟨hrx, htx, -, -⟩ := hchanges.queues
    obtain ⟨hq, hstatus, hfree⟩ := hc
    rw [htake, hrx, hq]
    exact hchanges.effects.trans (QueueChange.passOn e rest _ ⟨hrx.trans hq, hstatus, htx ▸ hfree⟩ hfits).effects

/-! ### The takes that dispatch to no request (R132, R133, R96, R115, R141) -/

theorem damageDetail_le (e : RxEntry) : damageDetail e ≤ 15 := by
  unfold damageDetail
  split <;> decide

theorem damagedForward_handles (s : State) (e : RxEntry) :
    Handles s e (s.raise .frameDamaged (damageDetail e), damagedContent e.bytes) where
  changes := raise_changes s _ (damageDetail_le e)
  fits h := by
    have hle := h.1
    rw [contentFits, damagedContent_length]
    split <;> omega

theorem demandTakenClaim_changes {s : State} (h : s.record.isSome = true) (demand : Nat) :
    Changes s (s.demandTakenClaim demand) := by
  obtain hidle | ⟨henter, -, hclear, hmode⟩ := demandTakenClaim_cases s demand
  · rw [hidle]
  · rw [henter]
    exact (BlockChange.enterActive h hclear (hmode.imp_right And.left)).changes

theorem judgeDemand_changes {s : State} {f : Frame} (h : f.source.toNat ≤ 15) : Changes s (s.judgeDemand f) := by
  unfold State.judgeDemand
  split
  · exact .refl
  · rename_i hjudges
    obtain ⟨-, htakes⟩ : stationValid s.station = true ∧ s.mode.takesDemand = true := by simpa using hjudges
    split
    · exact raise_changes s _ h
    · split
      · exact raise_changes s _ (by decide)
      · split
        · exact .refl
        · exact (BlockChange.takeRecord _ htakes).changes.trans (demandTakenClaim_changes rfl _)

theorem lowestPosition_le (field : Byte) : (lowestPosition field).getD 0 ≤ 15 := by
  unfold lowestPosition
  cases h : [0, 1, 2, 3, 4, 5, 6, 7].find? fun n => field.getLsbD n with
  | none => decide
  | some n =>
    have hmem := List.mem_of_find?_eq_some h
    have hsmall : ∀ m ∈ [0, 1, 2, 3, 4, 5, 6, 7], m ≤ 15 := by decide
    exact hsmall n hmem

theorem rollConditions_changes (s : State) (f : Frame) : Changes s (s.rollConditions f) := by
  have hpeers : Changes s (s.evaluatePeers f) := (BlockChange.evaluatePeers f).changes
  unfold State.rollConditions
  dsimp only
  split
  · exact (hpeers.trans (raise_changes _ _ (lowestPosition_le _))).trans (peerNotReadyClaim_changes _)
  · exact hpeers

theorem appendSlot_changes (s : State) (f : Frame) : Changes s (s.appendSlot f).1 := by
  unfold State.appendSlot
  dsimp only
  split
  · exact raise_changes s _ (by decide)
  · split
    · exact raise_changes s _ (by decide)
    · exact .refl

/-- The frame that a roll frame leaves as: its length, or ten bytes more (R120). -/
theorem appendSlot_length (s : State) (f : Frame) : (s.appendSlot f).2.length = 4 + f.body.length ∨
    (s.appendSlot f).2.length = 4 + f.body.length + 10 := by
  unfold State.appendSlot
  dsimp only
  split
  · exact .inl (Frame.content_length f)
  · split
    · exact .inl (Frame.content_length f)
    · right
      rw [Frame.content_length]
      simp [Frame.withBody, State.slot]
      omega

theorem writePositions_length (s : State) (body : List Byte) : (s.writePositions body).length = body.length := by
  simp [State.writePositions]

theorem rollShape_iff (f : Frame) : rollShape f = true ↔ RollShaped f := by
  simp [rollShape, RollShaped, and_assoc]

theorem handleRoll_handles {s : State} {e : RxEntry} {kind : KindTag} (he : e.status = .finished kind .complete) :
    Handles s e (s.handleRoll (frameOf e)) := by
  unfold State.handleRoll
  split
  · exact ⟨raise_changes s _ (by decide), fun h => h.fits_of_body_length he rfl⟩
  · rename_i hshape
    obtain ⟨-, hcount, hbody⟩ := (rollShape_iff (frameOf e)).1 (by simpa using hshape)
    refine ⟨(rollConditions_changes s _).trans (appendSlot_changes _ _), fun _ => ?_⟩
    have hlength := appendSlot_length (s.rollConditions (frameOf e))
      { frameOf e with body := (s.rollConditions (frameOf e)).writePositions (frameOf e).body }
    simp only [writePositions_length] at hlength
    simp only [contentFits]
    omega

theorem contentFits_reply (f : Frame) (station : Nat) (tag : Byte) {reply : Reply} (h : reply.words.length ≤ 32) :
    contentFits (f.reply station tag reply).content := by
  rw [contentFits, reply_content_length]
  omega

theorem address_handles {s : State} {e : RxEntry} {kind : KindTag} (he : e.status = .finished kind .complete)
    (hsource : (frameOf e).source.toNat ≤ 15) : Handles s e (s.address (frameOf e)) := by
  unfold State.address
  dsimp only
  split
  · exact ⟨raise_changes s _ (by decide), fun h => h.fits_of_body_length he rfl⟩
  · split
    · split
      · exact ⟨raise_changes s _ hsource, fun _ => contentFits_reply _ _ _ (by decide)⟩
      · exact ⟨.refl, fun _ => contentFits_reply _ _ _ (by decide)⟩
    · exact ⟨.refl, fun h => h.fits_of_body_length he rfl⟩

/-! ### Requests (9.2 to 9.4) -/

/-- A request performed: changes of the blocks, and a reply of at most 32 words (R145, R149). -/
structure Performs (s : State) (r : State × Reply) : Prop where
  changes : Changes s r.1
  short : r.2.words.length ≤ 32

/-- A request that passes checks 1 to 5 is well formed and in a mode that allows it (R143). -/
theorem checkFailure_eq_none {s : State} {k : RequestKind} {r : Request} (h : s.checkFailure k r = none) :
    wellFormedRequest k r = true ∧ modeAllows k s.mode = true := by
  unfold State.checkFailure at h
  split at h
  · cases h
  · split at h
    · cases h
    · rename_i hformed
      split at h
      · cases h
      · split at h
        · cases h
        · rename_i hmode
          simpa using And.intro hformed hmode

theorem judgeRequest_performs {s : State} {k : RequestKind} {perform : State → Request → State × Reply} {r : Request}
    (hsource : r.source ≤ 15) (h : s.checkFailure k r = none → Performs s (perform s r)) :
    Performs s (s.judgeRequest k perform r) := by
  unfold State.judgeRequest
  split
  · exact ⟨raise_changes s _ hsource, Nat.zero_le _⟩
  · exact ⟨.refl, Nat.zero_le _⟩
  · exact h ‹_›

theorem answer_handles {s : State} {k : RequestKind} {perform : State → Request → State × Reply} {e : RxEntry}
    (hsource : (frameOf e).source.toNat ≤ 15)
    (h : ∀ r, s.checkFailure k r = none → Performs s (perform s r)) :
    Handles s e (s.answer k perform (frameOf e)) := by
  obtain ⟨hchanges, hshort⟩ := judgeRequest_performs (r := Request.ofFrame (frameOf e)) hsource (h _)
  exact ⟨hchanges, fun _ => contentFits_reply _ _ _ hshort⟩

theorem request_effects {s : State} {k : RequestKind} {perform : State → Request → State × Reply}
    (h : ∀ r, s.checkFailure k r = none → Performs s (perform s r)) : Effects s (s.request k perform) :=
  take_effects fun _ _ _ _ hrow => answer_handles (source_of_rowOf hrow (by simp) (by simp)) h

theorem readWords_length_le (s : State) (r : Request) : (s.readWords r).length ≤ r.count := by
  unfold State.readWords
  split
  · exact Nat.zero_le _
  · refine (List.length_take_le _ _).trans ?_
    split <;> omega

theorem count_le_of_wellFormed {k : RequestKind} {r : Request} (h : wellFormedRequest k r = true) : r.count ≤ 32 := by
  simp only [wellFormedRequest, Bool.and_eq_true, decide_eq_true_iff] at h
  obtain ⟨⟨⟨-, hcount⟩, -⟩, -⟩ := h
  exact hcount

theorem performRead_performs {s : State} {r : Request} (h : s.checkFailure .read r = none) :
    Performs s (s.performRead r) :=
  ⟨.refl, (readWords_length_le s r).trans (count_le_of_wellFormed (checkFailure_eq_none h).1)⟩

theorem writeReply_words (name : TableName) (level : Nat) (r : Request) : (writeReply name level r).words = [] := by
  unfold writeReply
  dsimp only
  split <;> rfl

theorem performWrite_performs {s : State} {r : Request} (h : s.checkFailure .write r = none) :
    Performs s (s.performWrite r) := by
  have hmode : s.mode = .pass := by simpa [modeAllows] using (checkFailure_eq_none h).2
  unfold State.performWrite
  split
  · exact ⟨.refl, Nat.zero_le _⟩
  · split
    · exact ⟨.refl, Nat.zero_le _⟩
    · exact ⟨(BlockChange.storeWords _ r hmode).changes, by simp [writeReply_words]⟩

theorem performArm_performs {s : State} {r : Request} (h : s.checkFailure .arm r = none) :
    Performs s (s.performArm r) := by
  have hmode : s.mode = .pass := by simpa [modeAllows] using (checkFailure_eq_none h).2
  unfold State.performArm
  split
  · exact ⟨.refl, Nat.zero_le _⟩
  · rename_i hpasses
    exact ⟨(BlockChange.arm hmode hpasses).changes, Nat.zero_le _⟩

theorem performDisarm_performs (s : State) (r : Request) : Performs s (s.performDisarm r) := by
  refine ⟨?_, Nat.zero_le _⟩
  show Changes s s.disarm
  unfold State.disarm
  by_cases hpass : s.mode = .pass
  · rw [if_pos hpass]
  · rw [if_neg hpass]
    by_cases hactive : s.mode = .active
    · rw [if_pos hactive]
      exact (BlockChange.disarmActive hactive).changes
    · rw [if_neg hactive]
      exact (BlockChange.disarm hpass hactive).changes

theorem performAcknowledge_performs (s : State) (r : Request) : Performs s (s.performAcknowledge r) := by
  unfold State.performAcknowledge State.acknowledgeKind
  split
  · split
    · exact ⟨.refl, Nat.zero_le _⟩
    · exact ⟨(BlockChange.acknowledge _).changes, Nat.zero_le _⟩
  · exact ⟨.refl, Nat.zero_le _⟩

theorem performRearm_performs (s : State) (r : Request) : Performs s (s.performRearm r) := by
  unfold State.performRearm State.rearm
  split
  · split
    · exact ⟨.refl, Nat.zero_le _⟩
    · rename_i hinput
      exact ⟨(BlockChange.rearm _ (by simpa using hinput)).changes, Nat.zero_le _⟩
  · exact ⟨.refl, Nat.zero_le _⟩

theorem pulsing_any_eq_false {s : State} (h : ¬(allChannels.any fun d => s.pulsing d) = true) (c : Chan) :
    (s.channels.get c).mode ≠ .pulse := by
  have hmem : c ∈ allChannels := by cases c <;> decide
  intro hc
  exact h (List.any_eq_true.2 ⟨c, hmem, decide_eq_true hc⟩)

theorem performExercise_performs {s : State} {r : Request} (h : s.checkFailure .exercise r = none) :
    Performs s (s.performExercise r) := by
  have hmode : s.mode = .pass := by simpa [modeAllows] using (checkFailure_eq_none h).2
  unfold State.performExercise State.startExercise
  split
  · split
    · exact ⟨.refl, Nat.zero_le _⟩
    · rename_i hidle
      split
      · exact ⟨.refl, Nat.zero_le _⟩
      · rename_i hclear
        exact ⟨(BlockChange.startPulse _ _ hmode (pulsing_any_eq_false hidle) (by simpa using hclear)).changes,
          Nat.zero_le _⟩
  · exact ⟨.refl, Nat.zero_le _⟩

theorem reviewLatch_changes (s : State) (c : Chan) : Changes s (s.reviewLatch c) := by
  unfold State.reviewLatch
  split
  · exact raiseLatch_changes s c
  · exact .refl

theorem performLoopClear_performs (s : State) (r : Request) : Performs s (s.performLoopClear r) where
  changes := (((((BlockChange.clearBlocks (s := s)).changes.trans (reviewLatch_changes _ .bk)).trans
    (reviewLatch_changes _ .li)).trans (reviewLatch_changes _ .lx)).trans (reviewLatch_changes _ .ri)).trans
    (reviewLatch_changes _ .rx)
  short := Nat.zero_le _

theorem handleLoopClear_handles {s : State} {e : RxEntry} {kind : KindTag}
    (he : e.status = .finished kind .complete) (hsource : (frameOf e).source.toNat ≤ 15) :
    Handles s e (s.handleLoopClear (frameOf e)) := by
  have hperforms (r : Request) (_ : s.checkFailure .loopClear r = none) := performLoopClear_performs s r
  unfold State.handleLoopClear
  dsimp only
  split
  · exact answer_handles hsource hperforms
  · exact ⟨(judgeRequest_performs hsource (hperforms _)).changes, fun h => h.fits_of_body_length he (by simp)⟩

/-! ### The other commands -/

theorem frameStart_effects {s t : State} (h : execFrameStart s = .next t) : Effects s t := by
  obtain rfl := Host.Outcome.next.inj h
  split
  · rename_i hready
    split
    · exact (QueueChange.reserve hready ‹_›).effects
    · exact (raise_changes s .queueOverrun (by decide)).effects.trans
        (QueueChange.ignore (s := s.raise .queueOverrun 0) hready).effects
  all_goals exact .refl

theorem characterCompletion_effects {s t : State} {data : Byte} {stopAtMark : Bool}
    (h : execCharacterCompletion data stopAtMark s = .next t) : Effects s t := by
  obtain rfl := Host.Outcome.next.inj h
  split
  · exact (QueueChange.store _ ‹_› data stopAtMark).effects
  · exact .refl

theorem frameCompletion_effects {s t : State} (h : execFrameCompletion s = .next t) : Effects s t := by
  obtain rfl := Host.Outcome.next.inj h
  split
  · split
    · exact .refl
    · exact (QueueChange.finish _ ‹_› ‹_›).effects
  · exact .refl

theorem overlongCompletion_effects {s t : State} (h : execOverlongCompletion s = .next t) : Effects s t := by
  obtain rfl := Host.Outcome.next.inj h
  split
  · split
    · exact (QueueChange.overlong _ ‹_› ‹_›).effects
    · exact .refl
  · exact .refl

theorem receiverIdle_effects {s t : State} (h : execReceiverIdle s = .next t) : Effects s t := by
  obtain rfl := Host.Outcome.next.inj h
  split
  · exact (QueueChange.idle (.inl ‹_›)).effects
  · exact (QueueChange.idle (.inr ‹_›)).effects
  all_goals exact .refl

theorem transmitterTake_effects {s t : State} (h : execTransmitterTake s = .next t) : Effects s t := by
  obtain rfl := Host.Outcome.next.inj h
  split
  · exact (QueueChange.transmit _ _ ‹_›).effects
  all_goals exact .refl

theorem timerStep_effects {s t : State} (h : execTimerStep s = .next t) : Effects s t := by
  obtain rfl := Host.Outcome.next.inj h
  split
  · exact .refl
  · exact (BlockChange.timerStep _ ‹_›).changes.effects

theorem expire_changes {s : State} (h : s.timer = .running 0) : Changes s s.expire := by
  have hcode : s.mode.code ≤ 15 := by cases s.mode <;> decide
  exact ((raise_changes s .demandLost hcode).trans
    (BlockChange.preset (s := s.raise .demandLost s.mode.code) h).changes).trans (faultClaim_changes _)

theorem expiry_effects {s t : State} (h : execExpiry s = .next t) : Effects s t := by
  obtain rfl := Host.Outcome.next.inj h
  split
  · exact (expire_changes ‹_›).effects
  · exact .refl

theorem controlPeriod_effects {s t : State} (h : execControlPeriodEvent s = .next t) : Effects s t := by
  by_cases hm : s.mode = .active
  · obtain rfl := Host.Outcome.next.inj ((exec_controlPeriod_active hm).symm.trans h)
    exact Changes.effects (((BlockChange.control hm).changes.trans (raisePeriod_changes s _ .left)).trans
      (raisePeriod_changes s _ .right))
  · obtain rfl := Host.Outcome.next.inj h
    rw [if_neg hm]
    exact (BlockChange.takeInputs hm).changes.effects

theorem judgeCode_changes (s : State) (w : Wheel) (code : Nat) : Changes s (s.judgeCode w code) := by
  have hdetail : senseDetail w ≤ 15 := by cases w <;> decide
  rw [judgeCode_eq]
  split
  · exact ((raise_changes s _ hdetail).trans (faultClaim_changes _)).trans
      (BlockChange.judge w code fun h => absurd h (faultClaim_mode_ne _)).changes
  · rename_i hstays
    exact (BlockChange.judge w code fun _ => Bool.eq_false_of_not_eq_true hstays).changes

theorem assertInput_changes (s : State) (c : Chan) : Changes s (s.assertInput c) := by
  rw [assertInput_eq]
  split
  · exact (BlockChange.assertAgain c ‹_›).changes
  · exact ((raiseLatch_changes s c).trans (latchClaim_changes _ c)).trans
      (BlockChange.latch c (latchClaim_mode_ne _ c)).changes

theorem deviceReset_effects {s t : State} {straps : Nat} {inputs : PerChan Bool}
    (h : execDeviceReset straps inputs s = .next t) : Effects s t := by
  obtain rfl := Host.Outcome.next.inj h
  rw [afterReset_eq]
  have hraises : Changes (s.powered straps inputs) _ :=
    ((((raiseAsserted_changes _ inputs .bk).trans (raiseAsserted_changes _ inputs .li)).trans
      (raiseAsserted_changes _ inputs .lx)).trans (raiseAsserted_changes _ inputs .ri)).trans
      (raiseAsserted_changes _ inputs .rx)
  exact (Relation.ReflTransGen.single (Effect.reset straps inputs)).trans hraises.effects

/-- An event of the valve channels alone. -/
theorem channels_effects {s : State} {p : PerChan Channel} (h : ChannelEvent s.channels p) :
    Effects s { s with channels := p } :=
  (BlockChange.channels p h).changes.effects

theorem pairPeriodEnd_effects {s t : State} {pair : Wheel} (h : execPairPeriodEnd pair s = .next t) :
    Effects s t := by
  obtain rfl := Host.Outcome.next.inj h
  cases pair with
  | left => exact channels_effects .leftEnd
  | right => exact channels_effects .rightEnd

theorem ratioOnTimeEnd_effects {s t : State} {c : Chan} (h : execRatioOnTimeEnd c s = .next t) : Effects s t := by
  obtain rfl := Host.Outcome.next.inj h
  split
  · rename_i hend
    obtain ⟨hrunning, hreached⟩ : (s.channels.get c).running = true ∧ _ := Bool.and_eq_true_iff.1 hend
    exact channels_effects (.onTimeEnd c hrunning (of_decide_eq_true hreached))
  · exact .refl

theorem bkPeriodEnd_effects {s t : State} (h : execBkPeriodEnd s = .next t) : Effects s t := by
  obtain rfl := Host.Outcome.next.inj h
  split
  · exact channels_effects (.backupEnd ‹_›)
  · exact .refl

/-- Every command is a run of effects. -/
theorem exec_effects {c : Instr} {s t : State} (h : exec c s = .next t) : Effects s t := by
  cases c with
  | deviceReset straps inputs => exact deviceReset_effects h
  | frameStart => exact frameStart_effects h
  | frameCompletion => exact frameCompletion_effects h
  | overlongCompletion => exact overlongCompletion_effects h
  | damagedFrameForward =>
    obtain rfl := Host.Outcome.next.inj h
    exact take_effects fun e _ _ _ _ => damagedForward_handles s e
  | forwardUnchanged =>
    obtain rfl := Host.Outcome.next.inj h
    refine take_effects fun e _ _ he hrow => ⟨.refl, fun hs => ?_⟩
    obtain rfl := ending_of_rowOf hrow (by simp)
    exact hs.content_fits he
  | demandFrame =>
    obtain rfl := Host.Outcome.next.inj h
    refine take_effects fun e _ _ he hrow =>
      ⟨judgeDemand_changes (source_of_rowOf hrow (by simp) (by simp)), fun hs => ?_⟩
    obtain rfl := ending_of_rowOf hrow (by simp)
    exact hs.content_fits he
  | timerStep => exact timerStep_effects h
  | expiry => exact expiry_effects h
  | rollFrame =>
    obtain rfl := Host.Outcome.next.inj h
    refine take_effects fun e _ _ he hrow => ?_
    obtain rfl := ending_of_rowOf hrow (by simp)
    exact handleRoll_handles he
  | manageAddressing =>
    obtain rfl := Host.Outcome.next.inj h
    refine take_effects fun e _ _ he hrow => ?_
    obtain rfl := ending_of_rowOf hrow (by simp)
    exact address_handles he (source_of_rowOf hrow (by simp) (by simp))
  | read =>
    obtain rfl := Host.Outcome.next.inj h
    exact request_effects fun _ => performRead_performs
  | write =>
    obtain rfl := Host.Outcome.next.inj h
    exact request_effects fun _ => performWrite_performs
  | arm =>
    obtain rfl := Host.Outcome.next.inj h
    exact request_effects fun _ => performArm_performs
  | disarm =>
    obtain rfl := Host.Outcome.next.inj h
    exact request_effects fun r _ => performDisarm_performs s r
  | acknowledge =>
    obtain rfl := Host.Outcome.next.inj h
    exact request_effects fun r _ => performAcknowledge_performs s r
  | rearmChannel =>
    obtain rfl := Host.Outcome.next.inj h
    exact request_effects fun r _ => performRearm_performs s r
  | exercise =>
    obtain rfl := Host.Outcome.next.inj h
    exact request_effects fun _ => performExercise_performs
  | loopClear =>
    obtain rfl := Host.Outcome.next.inj h
    refine take_effects fun e _ _ he hrow => ?_
    obtain rfl := ending_of_rowOf hrow (by simp)
    exact handleLoopClear_handles he (source_of_rowOf hrow (by simp) (by simp))
  | controlPeriodEvent => exact controlPeriod_effects h
  | toothEdge wheel =>
    obtain rfl := Host.Outcome.next.inj h
    exact (BlockChange.toothEdge wheel).changes.effects
  | sample leftCode rightCode =>
    obtain rfl := Host.Outcome.next.inj h
    exact Changes.effects ((judgeCode_changes s .left leftCode).trans (judgeCode_changes _ .right rightCode))
  | latchSetEvent channel =>
    obtain rfl := Host.Outcome.next.inj h
    exact (assertInput_changes s channel).effects
  | faultInputAssertedWhileLatched channel =>
    obtain rfl := Host.Outcome.next.inj h
    exact (assertInput_changes s channel).effects
  | faultInputDeasserted channel =>
    obtain rfl := Host.Outcome.next.inj h
    exact (BlockChange.deassert channel).changes.effects
  | pairPeriodEnd pair => exact pairPeriodEnd_effects h
  | ratioOnTimeEnd channel => exact ratioOnTimeEnd_effects h
  | bkPeriodEnd => exact bkPeriodEnd_effects h
  | pullInStep =>
    obtain rfl := Host.Outcome.next.inj h
    exact channels_effects .stepPullIn
  | pullInCompletion =>
    obtain rfl := Host.Outcome.next.inj h
    exact channels_effects .completePullIn
  | pulseStep =>
    obtain rfl := Host.Outcome.next.inj h
    exact channels_effects .stepPulse
  | pulseCompletion =>
    obtain rfl := Host.Outcome.next.inj h
    exact channels_effects .completePulse
  | transmitterTake => exact transmitterTake_effects h
  | frameSent =>
    obtain rfl := Host.Outcome.next.inj h
    exact QueueChange.sent.effects
  | characterCompletion data stopAtMark => exact characterCompletion_effects h
  | receiverIdle => exact receiverIdle_effects h
  | phaseCount =>
    obtain rfl := Host.Outcome.next.inj h
    exact channels_effects .count

/-- What every effect keeps, and what does not speak of the queue of commands, every step keeps. -/
theorem step_keeps {P : State → Prop} (hqueue : ∀ s rest, P s → P { s with pending := rest })
    (heffect : ∀ s t, Effect s t → P s → P t) {s t : State} (hs : P s) (h : step s = .next t) : P t := by
  unfold step at h
  split at h
  · exact Host.Outcome.next.inj h ▸ hs
  · rename_i c rest _
    have hrun := exec_effects h
    clear h
    induction hrun with
    | refl => exact hqueue s rest hs
    | tail _ heff ih => exact heffect _ _ heff ih

end Sys2Proof.Machine

/-! The effects keep the attention list and the queues sound (R127, R134, R136, R173). -/

namespace Sys2Proof.Machine

/-! ### The attention list -/

theorem raise_attentionSound {s : State} (hs : s.AttentionSound) (k : AttentionKind) {detail : Nat}
    (hd : detail ≤ 15) : (s.raise k detail).AttentionSound := by
  obtain ⟨horder, hentries⟩ := hs
  refine ⟨raiseIn_pairwise k detail _ horder, fun e he => ?_⟩
  obtain he | rfl | ⟨old, hold, -, rfl⟩ := mem_raiseIn he
  · exact hentries e he
  · exact ⟨Nat.le_refl 1, (by decide : 1 ≤ 255), hd⟩
  · obtain ⟨hlow, hhigh, -⟩ := hentries old hold
    rw [AttentionEntry.again_repeats hhigh]
    exact ⟨by omega, by omega, hd⟩

theorem removeKind_attentionSound {s : State} (hs : s.AttentionSound) (k : AttentionKind) :
    { s with attention := removeKind k s.attention }.AttentionSound :=
  ⟨removeKind_pairwise k hs.1, fun e he => hs.2 e (mem_removeKind.1 he).1⟩

theorem attentionSound_of_nil {s : State} (h : s.attention = []) : s.AttentionSound := by
  simp [State.AttentionSound, h]

theorem Effect.attentionSound {s t : State} (h : Effect s t) (hs : s.AttentionSound) : t.AttentionSound := by
  cases h with
  | block t change =>
    cases change with
    | raise k detail small => exact raise_attentionSound hs k small
    | acknowledge k => exact removeKind_attentionSound hs k
    | clearBlocks => exact attentionSound_of_nil rfl
    | _ => exact hs
  | queue t change => cases change <;> exact hs
  | reset => exact attentionSound_of_nil rfl

/-! ### The Receive Queue -/

theorem RxEntry.reserved_sound : RxEntry.reserved.Sound := ⟨Nat.zero_le _, fun _ _ h => nomatch h⟩

theorem RxEntry.sound_of_inFlight {e : RxEntry} (hle : e.bytes.length ≤ 80) (h : e.status = .inFlight) : e.Sound :=
  ⟨hle, fun _ _ hf => by rw [h] at hf; cases hf⟩

@[simp] theorem RxEntry.store_status (e : RxEntry) (data : Byte) (stopAtMark : Bool) :
    (e.store data stopAtMark).status = e.status := by
  unfold RxEntry.store
  split <;> rfl

theorem RxEntry.Sound.store {e : RxEntry} (h : e.Sound) (hf : e.status = .inFlight) (data : Byte)
    (stopAtMark : Bool) : (e.store data stopAtMark).Sound := by
  refine RxEntry.sound_of_inFlight ?_ (by rw [RxEntry.store_status, hf])
  unfold RxEntry.store
  split
  · rename_i hroom
    have hlt : e.bytes.length < 80 := of_decide_eq_true (Bool.and_eq_true_iff.1 hroom).2
    simpa using Nat.succ_le_of_lt hlt
  · exact h.1

/-- A completion with a tag that is COMPLETE only where R128 says so. -/
theorem RxEntry.Sound.finish {e : RxEntry} (h : e.Sound) (hheld : e.bytes ≠ []) {ending : EndTag}
    (hend : ending = .complete → e.idleTag = .complete) : (e.finish ending).Sound := by
  refine ⟨h.1, fun kind tag htag => ?_⟩
  obtain ⟨rfl, rfl⟩ : KindTag.ofByte (e.bytes.getD 0 0) = kind ∧ ending = tag := by
    simpa [RxEntry.finish] using htag
  exact ⟨List.length_pos_iff.2 hheld, rfl, hend⟩

theorem queuesSound_entry {s : State} {front : List RxEntry} {e : RxEntry} (hs : s.QueuesSound)
    (hq : s.receiveQueue = front ++ [e]) : e.Sound := by
  obtain ⟨-, -, hentries, -⟩ := hs
  exact hentries e (by simp [hq])

/-- The last entry of the Receive Queue replaced, with the receiver as the new entry tells. -/
theorem replaceLast_queuesSound {s : State} {front : List RxEntry} {e e' : RxEntry} {r : Receiver}
    (hs : s.QueuesSound) (hq : s.receiveQueue = front ++ [e]) (he : e'.Sound)
    (hr : r = .receiving ↔ e'.status = .inFlight) :
    { s with receiver := r, receiveQueue := front ++ [e'] }.QueuesSound := by
  obtain ⟨hlen, htx, hentries, hdone, -, hcontents, hsending⟩ := hs
  rw [hq] at hlen hentries hdone
  refine ⟨by simpa using hlen, htx, fun x hx => ?_, ?_, ?_, hcontents, hsending⟩
  · rcases List.mem_append.1 hx with hx | hx
    · exact hentries x (List.mem_append_left _ hx)
    · rwa [List.mem_singleton.1 hx]
  · simpa using hdone
  · simpa using hr

theorem reserve_queuesSound {s : State} (hs : s.QueuesSound) (hready : s.receiver = .ready)
    (hfree : s.receiveQueue.length < 4) :
    { s with receiver := .receiving, receiveQueue := s.receiveQueue ++ [RxEntry.reserved] }.QueuesSound := by
  obtain ⟨-, htx, hentries, hdone, hlast, hcontents, hsending⟩ := hs
  refine ⟨by simpa using hfree, htx, fun x hx => ?_, fun x hx => ?_, by simp [RxEntry.reserved], hcontents, hsending⟩
  · rcases List.mem_append.1 hx with hx | hx
    · exact hentries x hx
    · rw [List.mem_singleton.1 hx]
      exact RxEntry.reserved_sound
  · rw [List.dropLast_concat] at hx
    intro hflight
    have hnot : ¬∃ e, s.receiveQueue.getLast? = some e ∧ e.status = .inFlight := by
      rw [← hlast, hready]
      simp
    rcases List.eq_nil_or_concat' s.receiveQueue with hnil | ⟨front, e, hq⟩
    · rw [hnil] at hx
      cases hx
    · rw [hq] at hx hdone hnot
      rcases List.mem_append.1 hx with hx | hx
      · exact hdone x (by simpa using hx) hflight
      · rw [List.mem_singleton] at hx
        exact hnot ⟨e, by simp, hx ▸ hflight⟩

/-- The receiver between two states in which no frame is received. -/
theorem receiver_queuesSound {s : State} {r : Receiver} (hs : s.QueuesSound) (hold : s.receiver ≠ .receiving)
    (hnew : r ≠ .receiving) : { s with receiver := r }.QueuesSound := by
  obtain ⟨hlen, htx, hentries, hdone, hlast, hcontents, hsending⟩ := hs
  exact ⟨hlen, htx, hentries, hdone, ⟨fun h => absurd h hnew, fun h => absurd (hlast.2 h) hold⟩, hcontents, hsending⟩

/-! ### The Transmit Queue -/

theorem passOn_queuesSound {s : State} {e : RxEntry} {rest : List RxEntry} {content : List Byte}
    (hs : s.QueuesSound) (hc : s.CanTake e rest) (hfits : e.Sound → contentFits content) :
    (s.passOn rest content).QueuesSound := by
  obtain ⟨hlen, -, hentries, hdone, hlast, hcontents, hsending⟩ := hs
  obtain ⟨hq, hstatus, hfree⟩ := hc
  rw [hq] at hlen hentries hdone hlast
  have hcontent := hfits (hentries e List.mem_cons_self)
  refine ⟨Nat.le_of_succ_le hlen, by simpa using hfree, fun x hx => hentries x (List.mem_cons_of_mem _ hx), ?_, ?_,
    fun c hmem => ?_, hsending⟩
  · cases rest with
    | nil => simp
    | cons b rest => exact fun x hx => hdone x (List.mem_cons_of_mem _ hx)
  · cases rest with
    | nil => simpa [hstatus] using hlast
    | cons b rest => simpa [List.getLast?_cons_cons] using hlast
  · rcases List.mem_append.1 hmem with hmem | hmem
    · exact hcontents c hmem
    · rwa [List.mem_singleton.1 hmem]

theorem transmit_queuesSound {s : State} {content : List Byte} {rest : List (List Byte)} (hs : s.QueuesSound)
    (h : s.transmitQueue = content :: rest) :
    { s with sending := some (withCheckCode content), transmitQueue := rest }.QueuesSound := by
  obtain ⟨hlen, htx, hentries, hdone, hlast, hcontents, -⟩ := hs
  rw [h] at htx hcontents
  refine ⟨hlen, Nat.le_of_succ_le htx, hentries, hdone, hlast, fun c hc => hcontents c (List.mem_cons_of_mem _ hc),
    fun b hb => ⟨content, hcontents content List.mem_cons_self, ?_⟩⟩
  exact (Option.some.inj hb).symm

theorem sent_queuesSound {s : State} (hs : s.QueuesSound) : { s with sending := none }.QueuesSound := by
  obtain ⟨hlen, htx, hentries, hdone, hlast, hcontents, -⟩ := hs
  exact ⟨hlen, htx, hentries, hdone, hlast, hcontents, fun b hb => nomatch hb⟩

/-- The queues are sound by their own four fields. -/
theorem queuesSound_congr {s t : State} (h : t.receiveQueue = s.receiveQueue ∧ t.transmitQueue = s.transmitQueue ∧
    t.receiver = s.receiver ∧ t.sending = s.sending) : t.QueuesSound ↔ s.QueuesSound := by
  obtain ⟨h1, h2, h3, h4⟩ := h
  unfold State.QueuesSound
  rw [h1, h2, h3, h4]

theorem powered_queuesSound (s : State) (straps : Nat) (inputs : PerChan Bool) :
    (s.powered straps inputs).QueuesSound := by
  simp [State.QueuesSound, State.powered, State.reset]

theorem QueueChange.queuesSound {s t : State} (h : QueueChange s t) (hs : s.QueuesSound) : t.QueuesSound := by
  cases h with
  | reserve ready free => exact reserve_queuesSound hs ready free
  | ignore ready => exact receiver_queuesSound hs (by simp [ready]) (by simp)
  | idle waits => exact receiver_queuesSound hs (by rcases waits with h | h <;> simp [h]) (by simp)
  | store e inFlight data stopAtMark =>
    obtain ⟨hr, hstatus, front, hq⟩ := inFlight_eq_some inFlight
    have he := queuesSound_entry hs hq
    rw [hq, updateLast_append]
    exact replaceLast_queuesSound (r := s.receiver) hs hq (he.store hstatus data stopAtMark) (by simp [hr, hstatus])
  | finish e inFlight held =>
    obtain ⟨-, -, front, hq⟩ := inFlight_eq_some inFlight
    have he := queuesSound_entry hs hq
    rw [hq, updateLast_append]
    exact replaceLast_queuesSound hs hq (he.finish held id) (by simp [RxEntry.finish])
  | overlong e inFlight full =>
    obtain ⟨-, -, front, hq⟩ := inFlight_eq_some inFlight
    have he := queuesSound_entry hs hq
    have held : e.bytes ≠ [] := fun h => by simp [h] at full
    rw [hq, updateLast_append]
    exact replaceLast_queuesSound hs hq (he.finish held fun h => nomatch h) (by simp [RxEntry.finish])
  | passOn e rest content takes fits => exact passOn_queuesSound hs takes fits
  | transmit content rest head => exact transmit_queuesSound hs head
  | sent => exact sent_queuesSound hs

theorem Effect.queuesSound {s t : State} (h : Effect s t) (hs : s.QueuesSound) : t.QueuesSound := by
  cases h with
  | block t change => exact (queuesSound_congr change.queues).2 hs
  | queue t change => exact change.queuesSound hs
  | reset straps inputs => exact powered_queuesSound s straps inputs

end Sys2Proof.Machine

/-! The effects keep the valve channels sound: the outputs and latches (R57, R67, R69), the modes that follow the axle
mode (R66, R72), and the period timing in ACTIVE (R53, R60). -/

namespace Sys2Proof.Machine

@[simp] theorem clearBlocks_channels (s : State) : s.clearBlocks.channels =
    s.channels.mapIdx fun c channel => channel.loopClear (s.faultInputs.get c) := rfl

@[simp] theorem powered_channels (s : State) (straps : Nat) (inputs : PerChan Bool) :
    (s.powered straps inputs).channels = inputs.map fun asserted => { Channel.reset with latch := asserted } := rfl

@[simp] theorem powered_mode (s : State) (straps : Nat) (inputs : PerChan Bool) :
    (s.powered straps inputs).mode = .pass := rfl

/-! ### The moves of one channel -/

/-- A move keeps the fault latch (R70). -/
theorem ChannelMove.latch {c d : Channel} (h : ChannelMove c d) : d.latch = c.latch := by
  cases h with
  | count =>
    unfold Channel.count
    split
    · split <;> rfl
    · rfl
  | stepPullIn => unfold Channel.stepPullIn; split <;> rfl
  | completePullIn => unfold Channel.completePullIn; split <;> rfl
  | stepPulse => unfold Channel.stepPulse; split <;> rfl
  | completePulse => unfold Channel.completePulse; split <;> rfl
  | writePending ratio => exact Channel.writePending_latch c ratio
  | _ => rfl

/-- A move keeps the mode, but that a pulse may end in OFF (R72). -/
theorem ChannelMove.mode {c d : Channel} (h : ChannelMove c d) :
    d.mode = c.mode ∨ (c.mode = .pulse ∧ d.mode = .off) := by
  cases h with
  | count =>
    left
    unfold Channel.count
    split
    · split <;> rfl
    · rfl
  | stepPullIn => left; unfold Channel.stepPullIn; split <;> rfl
  | completePullIn => left; unfold Channel.completePullIn; split <;> rfl
  | stepPulse => left; unfold Channel.stepPulse; split <;> rfl
  | completePulse =>
    unfold Channel.completePulse
    split
    · rename_i hdone
      exact .inr ⟨of_decide_eq_true (Bool.and_eq_true_iff.1 hdone).1, rfl⟩
    · exact .inl rfl
  | writePending ratio => exact .inl (Channel.writePending_mode c ratio)
  | _ => exact .inl rfl

theorem Channel.mode_ne_off_of_running {c : Channel} (h : c.running = true) : c.mode ≠ .off := by
  intro hoff
  simp [Channel.running, Channel.inHold, hoff] at h

/-- A channel that is driven out of OFF by its own table, with its latch clear where its input needs it. -/
theorem Channel.Sound.of_on {c : Channel} {input : Bool} (hout : c.output = c.level) (hon : c.mode ≠ .off)
    (hlatch : c.latch = false) (hinput : input = true → c.latch = true) : c.Sound input :=
  ⟨hout, hinput, fun h => by simp [hlatch] at h, fun h => absurd h hon⟩

theorem Channel.forceOff_sound {c : Channel} {input : Bool} (h : input = true → c.latch = true) :
    c.forceOff.Sound input :=
  ⟨rfl, h, fun _ => rfl, fun _ => rfl⟩

/-- A channel that is not OFF has its latch clear (R69). -/
theorem Channel.Sound.latch_of_on {c : Channel} {input : Bool} (h : c.Sound input) (hon : c.mode ≠ .off) :
    c.latch = false := by
  obtain ⟨-, -, hlatched, -⟩ := h
  exact Bool.eq_false_of_not_eq_true fun hl => hon (hlatched hl)

/-- A change of a channel that is not OFF, which keeps mode and latch and leaves the output of R57. -/
theorem Channel.Sound.of_change {c d : Channel} {input : Bool} (h : c.Sound input) (hon : c.mode ≠ .off)
    (hmode : d.mode = c.mode) (hlatch : d.latch = c.latch) (hout : d.output = d.level) : d.Sound input := by
  obtain ⟨-, hinput, -, -⟩ := id h
  exact .of_on hout (hmode ▸ hon) (hlatch.trans (h.latch_of_on hon)) (hlatch ▸ hinput)

theorem Channel.Sound.count {c : Channel} {input : Bool} (h : c.Sound input) : c.count.Sound input := by
  unfold Channel.count
  split
  · rename_i hrun
    have hon := Channel.mode_ne_off_of_running hrun
    split <;> exact h.of_change hon rfl rfl rfl
  · exact h

theorem Channel.Sound.stepPullIn {c : Channel} {input : Bool} (h : c.Sound input) : c.stepPullIn.Sound input := by
  unfold Channel.stepPullIn
  split
  · rename_i hpull
    obtain ⟨hengage, -⟩ : c.mode = .engage ∧ 0 < c.pulseRemaining := by simpa using hpull
    exact h.of_change (by simp [hengage]) rfl rfl rfl
  · exact h

theorem Channel.Sound.completePullIn {c : Channel} {input : Bool} (h : c.Sound input) :
    c.completePullIn.Sound input := by
  unfold Channel.completePullIn
  split
  · rename_i hpull
    obtain ⟨⟨hengage, -⟩, -⟩ : (c.mode = .engage ∧ c.pulseRemaining = 0) ∧ c.due = .pullIn := by simpa using hpull
    exact h.of_change (by simp [hengage]) rfl rfl rfl
  · exact h

theorem Channel.Sound.stepPulse {c : Channel} {input : Bool} (h : c.Sound input) : c.stepPulse.Sound input := by
  unfold Channel.stepPulse
  split
  · rename_i hpulse
    obtain ⟨hout, -⟩ := id h
    exact h.of_change (by simp [hpulse]) rfl rfl (by simpa [Channel.level, hpulse] using hout)
  · exact h

theorem Channel.Sound.completePulse {c : Channel} {input : Bool} (h : c.Sound input) : c.completePulse.Sound input := by
  unfold Channel.completePulse
  split
  · obtain ⟨-, hinput, -, -⟩ := h
    exact Channel.forceOff_sound hinput
  · exact h

theorem Channel.writePending_level (c : Channel) (ratio : Nat) : (c.writePending ratio).level = c.level := by
  unfold Channel.writePending
  split <;> rfl

theorem Channel.Sound.writePending {c : Channel} {input : Bool} (h : c.Sound input) (ratio : Nat) :
    (c.writePending ratio).Sound input := by
  by_cases hrun : c.running = true
  · obtain ⟨hout, -⟩ := id h
    exact h.of_change (Channel.mode_ne_off_of_running hrun) (c.writePending_mode ratio) (c.writePending_latch ratio)
      (by rw [c.writePending_output, c.writePending_level, hout])
  · rwa [Channel.writePending, if_neg hrun]

/-- Every move keeps a channel sound. -/
theorem ChannelMove.sound {c d : Channel} {input : Bool} (h : ChannelMove c d) (hc : c.Sound input) :
    d.Sound input := by
  cases h with
  | same => exact hc
  | count => exact hc.count
  | endPeriod due =>
    have hrun : c.running = true := (Bool.and_eq_true_iff.1 due).1
    exact hc.of_change (Channel.mode_ne_off_of_running hrun) rfl rfl rfl
  | onTimeEnd running reached =>
    have hlevel : c.level = false := by simp [Channel.level_of_running running, Nat.not_lt.2 reached]
    exact hc.of_change (Channel.mode_ne_off_of_running running) rfl rfl hlevel.symm
  | stepPullIn => exact hc.stepPullIn
  | completePullIn => exact hc.completePullIn
  | stepPulse => exact hc.stepPulse
  | completePulse => exact hc.completePulse
  | writePending ratio => exact hc.writePending ratio

/-! ### The moves of all five channels -/

/-- What the period end of a pair does: both channels over their period ends, or nothing (R60). -/
theorem endPair_cases (inlet exhaust : Channel) :
    (inlet.periodDue = true ∧ exhaust.periodDue = true ∧ endPair inlet exhaust = (inlet.endPeriod, exhaust.endPeriod)) ∨
      ((inlet.periodDue = false ∨ exhaust.periodDue = false) ∧ endPair inlet exhaust = (inlet, exhaust)) := by
  unfold endPair
  cases inlet.periodDue <;> cases exhaust.periodDue <;> simp

theorem endPair_moves (inlet exhaust : Channel) :
    ChannelMove inlet (endPair inlet exhaust).1 ∧ ChannelMove exhaust (endPair inlet exhaust).2 := by
  obtain ⟨hi, hx, h⟩ | ⟨-, h⟩ := endPair_cases inlet exhaust <;> rw [h]
  · exact ⟨.endPeriod hi, .endPeriod hx⟩
  · exact ⟨.same, .same⟩

theorem ChannelEvent.move {p q : PerChan Channel} (h : ChannelEvent p q) (c : Chan) :
    ChannelMove (p.get c) (q.get c) := by
  cases h with
  | count => rw [PerChan.get_map]; exact .count
  | leftEnd =>
    obtain ⟨hi, hx⟩ := endPair_moves p.li p.lx
    cases c with
    | li => exact hi
    | lx => exact hx
    | _ => exact .same
  | rightEnd =>
    obtain ⟨hi, hx⟩ := endPair_moves p.ri p.rx
    cases c with
    | ri => exact hi
    | rx => exact hx
    | _ => exact .same
  | onTimeEnd d running reached =>
    by_cases hd : c = d
    · subst hd
      rw [PerChan.get_set_self]
      exact .onTimeEnd running reached
    · rw [PerChan.get_set_of_ne _ _ hd]
      exact .same
  | backupEnd due =>
    cases c with
    | bk => exact .endPeriod due
    | _ => exact .same
  | stepPullIn =>
    cases c with
    | bk => exact .stepPullIn
    | _ => exact .same
  | completePullIn =>
    cases c with
    | bk => exact .completePullIn
    | _ => exact .same
  | stepPulse => rw [PerChan.get_map]; exact .stepPulse
  | completePulse => rw [PerChan.get_map]; exact .completePulse

theorem writeRatios_move (t : Tables) (engaged : Bool) (wheels : PerWheel WheelRecord) (p : PerChan Channel)
    (c : Chan) : ChannelMove (p.get c) ((writeRatios t engaged wheels p).get c) := by
  cases c with
  | bk => exact .same
  | _ => exact .writePending _

/-! ### Outputs, inputs and latches (R57, R69, R70) -/

/-- One channel replaced by a sound one, its input perhaps with it. -/
theorem valvesSound_set {s : State} (hs : s.ValvesSound) {c : Chan} {x : Channel} {inputs : PerChan Bool}
    (hx : x.Sound (inputs.get c)) (hinputs : ∀ d, d ≠ c → inputs.get d = s.faultInputs.get d) :
    { s with channels := s.channels.set c x, faultInputs := inputs }.ValvesSound := by
  intro d
  show ((s.channels.set c x).get d).Sound (inputs.get d)
  by_cases hd : d = c
  · subst hd
    rwa [PerChan.get_set_self]
  · rw [PerChan.get_set_of_ne _ _ hd, hinputs d hd]
    exact hs d

/-- One input changed on a channel that stays sound with it. -/
theorem valvesSound_input {s : State} (hs : s.ValvesSound) {c : Chan} {input : Bool}
    (hc : (s.channels.get c).Sound input) : { s with faultInputs := s.faultInputs.set c input }.ValvesSound := by
  intro d
  show (s.channels.get d).Sound ((s.faultInputs.set c input).get d)
  by_cases hd : d = c
  · subst hd
    rwa [PerChan.get_set_self]
  · rw [PerChan.get_set_of_ne _ _ hd]
    exact hs d

theorem forcedOff_valvesSound {s : State} (hs : s.ValvesSound) : s.forcedOff.ValvesSound := by
  intro c
  show ((s.channels.map Channel.forceOff).get c).Sound _
  rw [PerChan.get_map]
  obtain ⟨-, hinput, -, -⟩ := hs c
  exact Channel.forceOff_sound hinput

theorem enterActive_valvesSound {s : State} (hs : s.ValvesSound) (h : s.takeoverClear = true) :
    s.enterActive.ValvesSound := by
  obtain ⟨hclear, -, -⟩ := (takeoverClear_iff s).1 h
  intro c
  have hlatch := hclear c
  obtain ⟨-, hinput, -, -⟩ := hs c
  cases c <;> exact .of_on rfl (by simp [PerChan.get, State.enterActive, Channel.orderRatio, Channel.orderEngage,
    Channel.drive]) hlatch hinput

theorem Channel.Sound.clearLatch {c : Channel} (h : c.Sound false) : c.clearLatch.Sound false := by
  obtain ⟨-, -, -, hoff⟩ := h
  refine ⟨rfl, fun h => (nomatch h), fun h => (nomatch h), fun hm => ?_⟩
  have hc : c = c.forceOff := hoff hm
  rw [hc]
  rfl

theorem BlockChange.valvesSound {s t : State} (h : BlockChange s t) (hs : s.ValvesSound) : t.ValvesSound := by
  cases h with
  | enterActive present clear mode => exact enterActive_valvesSound hs clear
  | fallBack => exact forcedOff_valvesSound hs
  | isolateActive => exact forcedOff_valvesSound hs
  | disarmActive => exact forcedOff_valvesSound hs
  | disarm => exact forcedOff_valvesSound hs
  | clearBlocks =>
    intro c
    rw [clearBlocks_channels, PerChan.get_mapIdx]
    obtain ⟨-, hinput, -, -⟩ := hs c
    exact ⟨rfl, fun h => Bool.and_eq_true_iff.2 ⟨hinput h, h⟩, fun _ => rfl, fun _ => rfl⟩
  | control =>
    intro c
    exact (writeRatios_move _ _ _ _ c).sound (hs c)
  | assertAgain c latched =>
    obtain ⟨hout, -, hoff, hrecord⟩ := hs c
    exact valvesSound_input hs ⟨hout, fun _ => latched, hoff, hrecord⟩
  | latch c =>
    refine valvesSound_set hs ⟨rfl, fun _ => rfl, fun _ => rfl, fun _ => rfl⟩ fun d hd => ?_
    exact PerChan.get_set_of_ne _ _ hd
  | deassert c =>
    obtain ⟨hout, -, hoff, hrecord⟩ := hs c
    exact valvesSound_input hs ⟨hout, fun h => (nomatch h), hoff, hrecord⟩
  | rearm c deasserted =>
    have hc := hs c
    rw [deasserted] at hc
    exact valvesSound_set (inputs := s.faultInputs) hs (by rw [deasserted]; exact hc.clearLatch) fun _ _ => rfl
  | startPulse c length mode idle clear =>
    obtain ⟨-, hinput, -, -⟩ := hs c
    have hpulse : ((s.channels.get c).startPulse length).Sound (s.faultInputs.get c) :=
      .of_on rfl (by simp [Channel.startPulse, Channel.drive]) clear hinput
    exact valvesSound_set (inputs := s.faultInputs) hs hpulse fun _ _ => rfl
  | channels p event =>
    intro c
    exact (event.move c).sound (hs c)
  | _ => exact hs

theorem powered_valvesSound (s : State) (straps : Nat) (inputs : PerChan Bool) :
    (s.powered straps inputs).ValvesSound := by
  intro c
  rw [powered_channels, PerChan.get_map]
  exact ⟨rfl, id, fun _ => rfl, fun _ => rfl⟩

theorem Effect.valvesSound {s t : State} (h : Effect s t) (hs : s.ValvesSound) : t.ValvesSound := by
  cases h with
  | block t change => exact change.valvesSound hs
  | queue t change => cases change <;> exact hs
  | reset straps inputs => exact powered_valvesSound s straps inputs

/-! ### The channel modes (R66, R72) -/

/-- The channel modes in ACTIVE (5.1). -/
def activeMode : Chan → ChannelMode
  | .bk => .engage
  | .li | .lx | .ri | .rx => .ratio

theorem followMode_active {s : State} (h : s.mode = .active) :
    s.ChannelsFollowMode ↔ ∀ c, (s.channels.get c).mode = activeMode c := by
  rw [forall_chan]
  simp only [State.ChannelsFollowMode, h]
  rfl

theorem followMode_pass {s : State} (h : s.mode = .pass) : s.ChannelsFollowMode ↔
    (∀ c, (s.channels.get c).mode = .off ∨ (s.channels.get c).mode = .pulse) ∧
      ∀ c d, (s.channels.get c).mode = .pulse → (s.channels.get d).mode = .pulse → c = d := by
  simp only [State.ChannelsFollowMode, h]

theorem followMode_off {s : State} (ha : s.mode ≠ .active) (hp : s.mode ≠ .pass) :
    s.ChannelsFollowMode ↔ ∀ c, (s.channels.get c).mode = .off := by
  unfold State.ChannelsFollowMode
  cases hm : s.mode with
  | active => exact absurd hm ha
  | pass => exact absurd hm hp
  | _ => rfl

/-- With every channel OFF the modes follow every axle mode but ACTIVE. -/
theorem followMode_of_off {s : State} (ha : s.mode ≠ .active) (h : ∀ c, (s.channels.get c).mode = .off) :
    s.ChannelsFollowMode := by
  by_cases hp : s.mode = .pass
  · exact (followMode_pass hp).2 ⟨fun c => .inl (h c), fun c d hc => by simp [h c] at hc⟩
  · exact (followMode_off ha hp).2 h

theorem followMode_of_forcedOff {s t : State} (ha : t.mode ≠ .active)
    (h : t.channels = s.channels.map Channel.forceOff) : t.ChannelsFollowMode :=
  followMode_of_off ha fun c => by simp [h]

/-- Outside ACTIVE a channel may go OFF; else the modes stay. -/
theorem followMode_of_modes {s t : State} (hs : s.ChannelsFollowMode) (hm : t.mode = s.mode)
    (h : ∀ c, (t.channels.get c).mode = (s.channels.get c).mode ∨
      (s.mode ≠ .active ∧ (t.channels.get c).mode = .off)) : t.ChannelsFollowMode := by
  by_cases ha : s.mode = .active
  · rw [followMode_active (hm.trans ha)]
    intro c
    obtain hc | ⟨hn, -⟩ := h c
    · exact hc.trans ((followMode_active ha).1 hs c)
    · exact absurd ha hn
  · by_cases hp : s.mode = .pass
    · obtain ⟨hmodes, hone⟩ := (followMode_pass hp).1 hs
      have hpulse (c : Chan) (hc : (t.channels.get c).mode = .pulse) : (s.channels.get c).mode = .pulse := by
        obtain hsame | ⟨-, hoff⟩ := h c
        · exact hsame ▸ hc
        · simp [hoff] at hc
      refine (followMode_pass (hm.trans hp)).2 ⟨fun c => ?_, fun c d hc hd => hone c d (hpulse c hc) (hpulse d hd)⟩
      obtain hsame | ⟨-, hoff⟩ := h c
      · exact hsame ▸ hmodes c
      · exact .inl hoff
    · refine (followMode_off (hm ▸ ha) (hm ▸ hp)).2 fun c => ?_
      obtain hsame | ⟨-, hoff⟩ := h c
      · exact hsame.trans ((followMode_off ha hp).1 hs c)
      · exact hoff

theorem followMode_of_moves {s t : State} (hs : s.ChannelsFollowMode) (hm : t.mode = s.mode)
    (h : ∀ c, ChannelMove (s.channels.get c) (t.channels.get c)) : t.ChannelsFollowMode := by
  refine followMode_of_modes hs hm fun c => ?_
  obtain hsame | ⟨hpulse, hoff⟩ := (h c).mode
  · exact .inl hsame
  · refine .inr ⟨fun ha => ?_, hoff⟩
    have hactive := (followMode_active ha).1 hs c
    rw [hpulse] at hactive
    cases c <;> cases hactive

/-- One channel changed to a record of its mode, or to OFF outside ACTIVE. -/
theorem followMode_set {s : State} (hs : s.ChannelsFollowMode) {c : Chan} {x : Channel}
    (hx : x.mode = (s.channels.get c).mode ∨ (s.mode ≠ .active ∧ x.mode = .off)) :
    { s with channels := s.channels.set c x }.ChannelsFollowMode := by
  refine followMode_of_modes hs rfl fun d => ?_
  show ((s.channels.set c x).get d).mode = _ ∨ _ ∧ ((s.channels.set c x).get d).mode = _
  by_cases hd : d = c
  · subst hd
    rwa [PerChan.get_set_self]
  · rw [PerChan.get_set_of_ne _ _ hd]
    exact .inl rfl

/-- No pulse is in flight where A8 passes (R169). -/
theorem no_pulse_of_checkA8 {s : State} (h : s.checkA8 = none) (c : Chan) : (s.channels.get c).mode ≠ .pulse := by
  have hnone : (allChannels.find? fun c => s.pulsing c) = none := by simpa [State.checkA8] using h
  have hc := List.find?_eq_none.1 hnone c (by cases c <;> decide)
  simpa [State.pulsing] using hc

theorem startPulse_followMode {s : State} (hs : s.ChannelsFollowMode) (hm : s.mode = .pass)
    (hidle : ∀ d, (s.channels.get d).mode ≠ .pulse) (c : Chan) (length : Nat) :
    { s with channels := s.channels.set c ((s.channels.get c).startPulse length) }.ChannelsFollowMode := by
  obtain ⟨hmodes, -⟩ := (followMode_pass hm).1 hs
  have hother (d : Chan) (hd : d ≠ c) :
      ((s.channels.set c ((s.channels.get c).startPulse length)).get d).mode = .off := by
    rw [PerChan.get_set_of_ne _ _ hd]
    exact (hmodes d).resolve_right (hidle d)
  have honly (d : Chan) (hd : ((s.channels.set c ((s.channels.get c).startPulse length)).get d).mode = .pulse) :
      d = c := by
    by_contra hne
    rw [hother d hne] at hd
    cases hd
  refine (followMode_pass ?_).2 ⟨fun d => ?_, fun d d' hd hd' => (honly d hd).trans (honly d' hd').symm⟩
  · exact hm
  by_cases hd : d = c
  · subst hd
    right
    show ((s.channels.set d _).get d).mode = _
    rw [PerChan.get_set_self]
    rfl
  · exact .inl (hother d hd)

/-- The first check that ARM would fail is none of the ten (R164). -/
theorem checks_of_armFailure_eq_none {s : State} (h : s.armFailure = none) :
    s.checkA3 = none ∧ s.checkA4 = none ∧ s.checkA5 = none ∧ s.checkA6 = none ∧ s.checkA7 = none ∧
      s.checkA8 = none := by
  simp only [State.armFailure, List.findSome?_eq_none_iff, List.mem_cons, List.not_mem_nil, or_false, forall_eq_or_imp,
    forall_eq, Option.map_eq_none_iff] at h
  obtain ⟨-, -, h3, h4, h5, h6, h7, h8, -, -⟩ := h
  exact ⟨h3, h4, h5, h6, h7, h8⟩

theorem arm_followMode {s : State} (hs : s.ChannelsFollowMode) (hm : s.mode = .pass) (hpass : s.armFailure = none) :
    s.armed.ChannelsFollowMode := by
  obtain ⟨-, -, -, -, -, h8⟩ := checks_of_armFailure_eq_none hpass
  obtain ⟨hmodes, -⟩ := (followMode_pass hm).1 hs
  exact followMode_of_off (by simp) fun c => (hmodes c).resolve_right (no_pulse_of_checkA8 h8 c)

theorem BlockChange.followMode {s t : State} (h : BlockChange s t) (hs : s.ChannelsFollowMode) :
    t.ChannelsFollowMode := by
  cases h with
  | enterActive => exact ⟨rfl, rfl, rfl, rfl, rfl⟩
  | fallBack => exact followMode_of_forcedOff (s := s) (by simp) rfl
  | isolateActive => exact followMode_of_forcedOff (s := s) (by simp) rfl
  | disarmActive => exact followMode_of_forcedOff (s := s) (by simp) rfl
  | disarm => exact followMode_of_forcedOff (s := s) (by simp) rfl
  | isolate mode =>
    have hoff := (followMode_off (by rcases mode with h | h <;> simp [h]) (by rcases mode with h | h <;> simp [h])).1 hs
    exact followMode_of_off (by simp) hoff
  | arm mode passes => exact arm_followMode hs mode passes
  | clearBlocks =>
    refine followMode_of_off (by simp) fun c => ?_
    rw [clearBlocks_channels, PerChan.get_mapIdx]
    rfl
  | control => exact followMode_of_moves hs rfl (writeRatios_move _ _ _ _)
  | latch c mode => exact followMode_set hs (.inr ⟨mode, rfl⟩)
  | rearm c => exact followMode_set hs (.inl rfl)
  | startPulse c length mode idle => exact startPulse_followMode hs mode idle c length
  | channels p event => exact followMode_of_moves hs rfl event.move
  | _ => exact hs

theorem Effect.followMode {s t : State} (h : Effect s t) (hs : s.ChannelsFollowMode) : t.ChannelsFollowMode := by
  cases h with
  | block t change => exact change.followMode hs
  | queue t change => cases change <;> exact hs
  | reset straps inputs =>
    refine followMode_of_off (by simp) fun c => ?_
    rw [powered_channels, PerChan.get_map]
    rfl

end Sys2Proof.Machine

/-! The effects keep the tables in service (R163 to R170), the period timing in ACTIVE (R60, R64) and the Mode
Controller with its timer (R10, R81, R85, R103) sound. -/

namespace Sys2Proof.Machine

/-! ### What a successful ARM has judged (R165 to R168) -/

theorem axleFields_of_checkA3 {s : State} (h : s.checkA3 = none) {i : Nat} (hi : i < 18) :
    axleFieldValid s.tables i = true := by
  unfold State.checkA3 at h
  split at h
  · cases h
  · have hnone := List.find?_eq_none.1 h i (by simp; omega)
    simpa using hnone

theorem demandSource_of_checkA4 {s : State} (h : s.checkA4 = none) : ∃ e ∈ s.tables.map.toList, e.demand = true := by
  unfold State.checkA4 at h
  split at h
  · cases h
  · split at h
    · exact List.any_eq_true.1 ‹_›
    · cases h

theorem slipTable_of_checkA5 {s : State} (h : s.checkA5 = none) : (∀ i, i < 8 → slipFieldValid s.tables i = true) ∧
    s.tables.holdThreshold < s.tables.dumpThreshold ∧ s.tables.reapplyThreshold < s.tables.holdThreshold := by
  unfold State.checkA5 at h
  split at h
  · cases h
  · split at h
    · cases h
    · rename_i hfields
      refine ⟨fun i hi => ?_, ?_⟩
      · have hnone := List.find?_eq_none.1 hfields i (by simp; omega)
        simpa using hnone
      · split at h
        · cases h
        · split at h
          · cases h
          · omega

/-- An entry of the Load Table stands at one of the eight bands (R5). -/
theorem exists_band_of_mem {t : Tables} {e : LoadEntry} (h : e ∈ t.load.toList) :
    ∃ band, band < 8 ∧ loadEntry t band = e := by
  obtain ⟨band, hlt, rfl⟩ := List.mem_iff_getElem.1 h
  have hlt : band < 8 := by simpa using hlt
  exact ⟨band, hlt, by simp [loadEntry_of_lt t hlt]⟩

theorem loadEntries_of_checkA6 {s : State} (h : s.checkA6 = none) {e : LoadEntry} (he : e ∈ s.tables.load.toList) :
    e.curve.toNat < 4 ∧ 1 ≤ e.factor.toNat := by
  unfold State.checkA6 at h
  split at h
  · cases h
  · obtain ⟨band, hband, rfl⟩ := exists_band_of_mem he
    have hnone := List.find?_eq_none.1 h band (by simp; omega)
    obtain ⟨hfactor, c, hc, -⟩ := (bandFits_iff s band).1 (by simpa using hnone)
    exact ⟨hc ▸ c.isLt, hfactor⟩

theorem curves_of_checkA7 {s : State} (h : s.checkA7 = none) {c : Fin 4} (hc : curveReferenced s.tables c = true) :
    curveFault s.tables.curves[c] = none := by
  rw [checkA7_eq, List.findSome?_eq_none_iff] at h
  have hfault := h c (List.mem_finRange c)
  rwa [if_pos hc, Option.map_eq_none_iff] at hfault

theorem tablesFit_of_armFailure_eq_none {s : State} (h : s.armFailure = none) : TablesFit s.tables := by
  obtain ⟨h3, h4, h5, h6, h7, -⟩ := checks_of_armFailure_eq_none h
  obtain ⟨hslip, hdump, hhold⟩ := slipTable_of_checkA5 h5
  exact ⟨fun _ => axleFields_of_checkA3 h3, hslip, hdump, hhold, demandSource_of_checkA4 h4,
    fun _ => loadEntries_of_checkA6 h6, fun _ => curves_of_checkA7 h7⟩

/-- The bounds of the Axle Record and the Slip Table that the period work rests on (R166, R167). -/
theorem TablesFit.bounds {t : Tables} (h : TablesFit t) : t.ceiling ≤ 1000 ∧ 1 ≤ t.wheelPeriod ∧ 1 ≤ t.backupPeriod ∧
    1 ≤ t.fallbackLimit ∧ 1 ≤ t.dumpLimit ∧ 1 ≤ t.holdLimit ∧ t.rebuildStep ≤ 50 := by
  obtain ⟨haxle, hslip, -⟩ := h
  have hceiling := (inRange_iff _ _ _).1 (haxle 1 (by decide))
  have hwheel := (inRange_iff _ _ _).1 (haxle 5 (by decide))
  have hbackup := (inRange_iff _ _ _).1 (haxle 6 (by decide))
  have hlimit := (inRange_iff _ _ _).1 (haxle 10 (by decide))
  have hdump := (inRange_iff _ _ _).1 (hslip 4 (by decide))
  have hhold := (inRange_iff _ _ _).1 (hslip 5 (by decide))
  have hstep := (inRange_iff _ _ _).1 (hslip 6 (by decide))
  omega

/-! ### The tables in service (R163, R170) -/

/-- The tables of the chain are IN SERVICE and hold what ARM judged (R163). -/
def State.TablesServe (s : State) : Prop :=
  s.services.axle = .inService ∧ s.services.map = .inService ∧ s.services.load = .inService ∧
    s.services.slip = .inService ∧
    (∀ c : Fin 4, s.services.curves[c] = .inService ↔ curveReferenced s.tables c = true) ∧
    TablesFit s.tables

theorem tablesSound_pass {s : State} (h : s.mode = .pass) :
    s.TablesSound ↔ ∀ name, s.services.of name ≠ .inService := by
  rw [State.TablesSound, if_pos h]

theorem tablesSound_serve {s : State} (h : s.mode ≠ .pass) : s.TablesSound ↔ s.TablesServe := by
  rw [State.TablesSound, if_neg h]
  rfl

theorem State.TablesSound.fit {s : State} (hs : s.TablesSound) (h : s.mode ≠ .pass) : TablesFit s.tables := by
  obtain ⟨-, -, -, -, -, hfit⟩ := (tablesSound_serve h).1 hs
  exact hfit

theorem release_of_ne_inService (v : Services) (name : TableName) : v.release.of name ≠ .inService := by
  cases name with
  | curve c =>
    show (v.curves.map Service.release)[c] ≠ .inService
    simpa using Service.release_ne_inService _
  | _ => exact Service.release_ne_inService _

/-- The service state of one table changed, as every table's is read (R161). -/
theorem Services.of_put (v : Services) (written name : TableName) (x : Service) :
    (v.put written x).of name = if name = written then x else v.of name := by
  cases written with
  | curve c =>
    cases name with
    | curve d => simp [Services.put, Services.of, Vector.getElem_set, Fin.ext_iff, eq_comm]
    | _ => rfl
  | _ => cases name <;> rfl

theorem put_of_ne_inService {v : Services} (h : ∀ name, v.of name ≠ .inService) (written name : TableName) :
    (v.put written .loaded).of name ≠ .inService := by
  rw [Services.of_put]
  split
  · simp
  · exact h name

theorem arm_tablesSound {s : State} (hs : s.TablesSound) (hm : s.mode = .pass) (hpass : s.armFailure = none) :
    s.armed.TablesSound := by
  have hfit := tablesFit_of_armFailure_eq_none hpass
  refine (tablesSound_serve (by simp)).2 ⟨rfl, rfl, rfl, rfl, fun c => ?_, hfit⟩
  have hcurve : s.armed.services.curves[c] = curveAfterArm s.tables s.services c := by
    obtain ⟨_ | _ | _ | _ | n, h⟩ := c
    case succ.succ.succ.succ => omega
    all_goals rfl
  have hold : s.services.curves[c] ≠ .inService := (tablesSound_pass hm).1 hs (.curve c)
  rw [hcurve, curveAfterArm, State.armed_tables]
  split
  · rename_i hnamed
    exact ⟨fun _ => hnamed, fun _ => rfl⟩
  · rename_i hnamed
    exact ⟨fun h => absurd h hold, fun h => absurd h hnamed⟩

theorem BlockChange.tablesSound {s t : State} (h : BlockChange s t) (hs : s.TablesSound) : t.TablesSound := by
  have hserve (hm : s.mode ≠ .pass) := (tablesSound_serve hm).1 hs
  cases h with
  | enterActive present clear mode =>
    exact (tablesSound_serve (by simp)).2 (hserve (by rcases mode with h | h <;> simp [h]))
  | fallBack mode => exact (tablesSound_serve (by simp)).2 (hserve (by simp [mode]))
  | isolateActive mode => exact (tablesSound_serve (by simp)).2 (hserve (by simp [mode]))
  | isolate mode => exact (tablesSound_serve (by simp)).2 (hserve (by rcases mode with h | h <;> simp [h]))
  | arm mode passes => exact arm_tablesSound hs mode passes
  | disarmActive => exact (tablesSound_pass rfl).2 (release_of_ne_inService _)
  | disarm => exact (tablesSound_pass rfl).2 (release_of_ne_inService _)
  | clearBlocks => exact (tablesSound_pass rfl).2 (release_of_ne_inService _)
  | storeWords name r mode =>
    exact (tablesSound_pass (by exact mode)).2 (put_of_ne_inService ((tablesSound_pass mode).1 hs) name)
  | _ => exact hs

theorem Effect.tablesSound {s t : State} (h : Effect s t) (hs : s.TablesSound) : t.TablesSound := by
  cases h with
  | block t change => exact change.tablesSound hs
  | queue t change => cases change <;> exact hs
  | reset straps inputs =>
    refine (tablesSound_pass rfl).2 fun name => ?_
    cases name with
    | curve c =>
      show (Vector.replicate 4 Service.empty)[c] ≠ .inService
      simp
    | _ => exact fun h => nomatch h

/-! ### The period timing (R53, R60, R64) -/

theorem Channel.running_of_ratio {c : Channel} (h : c.mode = .ratio) : c.running = true := by
  simp [Channel.running, h]

theorem Channel.running_of_engage {c : Channel} (h : c.mode = .engage) : c.running = c.inHold := by
  simp [Channel.running, h]

theorem Channel.count_of_not_running {c : Channel} (h : c.running = false) : c.count = c := by
  simp [Channel.count, h]

/-- A count on a running channel: one more phase, or the period end due (R58). -/
theorem Channel.count_of_running {c : Channel} (h : c.running = true) : c.count =
    if c.phase + 1 < c.period then { c with phase := c.phase + 1 }.drive else { c with due := .periodEnd }.drive := by
  rw [Channel.count, if_pos h]
  split <;> rfl

theorem PairSound.count {period : Nat} {a b : Channel} (h : PairSound period a b) (ha : a.mode = .ratio)
    (hb : b.mode = .ratio) : PairSound period a.count b.count := by
  rw [Channel.count_of_running (Channel.running_of_ratio ha), Channel.count_of_running (Channel.running_of_ratio hb)]
  obtain ⟨hpa, hpb, hlt, hphase, hdue, hpull, hratios⟩ := h
  by_cases hin : a.phase + 1 < a.period
  · rw [if_pos hin, if_pos (by omega)]
    exact ⟨hpa, hpb, hpa ▸ hin, congrArg (· + 1) hphase, hdue, hpull, hratios⟩
  · rw [if_neg hin, if_neg (by omega)]
    exact ⟨hpa, hpb, hlt, hphase, rfl, by simp [Channel.drive], hratios⟩

theorem PairSound.endPair {period : Nat} {a b : Channel} (h : PairSound period a b) :
    PairSound period (endPair a b).1 (endPair a b).2 := by
  obtain ⟨-, -, hends⟩ | ⟨-, hends⟩ := endPair_cases a b <;> rw [hends]
  · obtain ⟨hpa, hpb, hlt, -, -, -, -, -, hla, hlb, -, hone⟩ := h
    exact ⟨hpa, hpb, Nat.zero_lt_of_lt hlt, rfl, rfl, by simp [Channel.endPeriod, Channel.drive], hla, hlb, hla, hlb,
      hone, hone⟩
  · exact h

theorem PairSound.writePending {period ratio ratio' : Nat} {a b : Channel} (h : PairSound period a b)
    (ha : a.mode = .ratio) (hb : b.mode = .ratio) (hr : ratio ≤ period) (hr' : ratio' ≤ period)
    (hone : ratio = 0 ∨ ratio' = 0) : PairSound period (a.writePending ratio) (b.writePending ratio') := by
  rw [Channel.writePending, if_pos (Channel.running_of_ratio ha), Channel.writePending,
    if_pos (Channel.running_of_ratio hb)]
  obtain ⟨hpa, hpb, hlt, hphase, hdue, hpull, hla, hlb, -, -, hactive, -⟩ := h
  exact ⟨hpa, hpb, hlt, hphase, hdue, hpull, hla, hlb, hr, hr', hactive, hone⟩

theorem pairSound_orderRatio {period : Nat} (h : 1 ≤ period) (a b : Channel) :
    PairSound period (a.orderRatio period) (b.orderRatio period) :=
  ⟨rfl, rfl, h, rfl, rfl, Due.noConfusion, Nat.zero_le _, Nat.zero_le _, Nat.zero_le _, Nat.zero_le _, .inl rfl,
    .inl rfl⟩

theorem BackupSound.count {t : Tables} {c : Channel} (h : BackupSound t c) (hm : c.mode = .engage) :
    BackupSound t c.count := by
  cases hrun : c.running with
  | false => rwa [Channel.count_of_not_running hrun]
  | true =>
    have hhold : c.inHold = true := (Channel.running_of_engage hm).symm.trans hrun
    have hdone : c.pulseRemaining = 0 ∧ c.due ≠ .pullIn := by simpa [Channel.inHold, hm] using hhold
    obtain ⟨hperiod, hactive, hpending, hphase, hpulse, -, -⟩ := h
    rw [Channel.count_of_running hrun]
    split
    · rename_i hlt
      refine ⟨hperiod, hactive, hpending, hperiod ▸ hlt, hpulse, fun hn => ?_, fun hp => ?_⟩
      · exact absurd (hhold.symm.trans hn) (by simp)
      · exact absurd hdone.1 (Nat.pos_iff_ne_zero.1 hp)
    · refine ⟨hperiod, hactive, hpending, hphase, hpulse, fun hn => ?_, fun hp => ?_⟩
      · simp [Channel.inHold, Channel.drive, hm, hdone.1] at hn
      · exact absurd hdone.1 (Nat.pos_iff_ne_zero.1 hp)

theorem BackupSound.endPeriod {t : Tables} {c : Channel} (h : BackupSound t c) : BackupSound t c.endPeriod := by
  obtain ⟨hperiod, -, hpending, hphase, hpulse, -, -⟩ := h
  exact ⟨hperiod, hpending, hpending, Nat.zero_lt_of_lt hphase, hpulse, fun _ => rfl, fun _ => rfl⟩

theorem BackupSound.stepPullIn {t : Tables} {c : Channel} (h : BackupSound t c) : BackupSound t c.stepPullIn := by
  unfold Channel.stepPullIn
  split
  · rename_i hpull
    have hpulls : c.mode = .engage ∧ 0 < c.pulseRemaining := by simpa using hpull
    obtain ⟨hperiod, hactive, hpending, hphase, hpulse, hstart, hdue⟩ := h
    have hzero : c.phase = 0 := hstart (by simp [Channel.inHold, Nat.pos_iff_ne_zero.1 hpulls.2])
    refine ⟨hperiod, hactive, hpending, hphase, (Nat.sub_le _ _).trans hpulse, fun _ => hzero, fun hleft => ?_⟩
    have hmore : c.pulseRemaining ≠ 1 := fun hone => by simp [Channel.drive, hone] at hleft
    show (if c.pulseRemaining = 1 then Due.pullIn else c.due) = .nothing
    rw [if_neg hmore, hdue hpulls.2]
  · exact h

theorem BackupSound.completePullIn {t : Tables} {c : Channel} (h : BackupSound t c) :
    BackupSound t c.completePullIn := by
  unfold Channel.completePullIn
  split
  · obtain ⟨hperiod, hactive, hpending, hphase, hpulse, -, -⟩ := h
    exact ⟨hperiod, hactive, hpending, Nat.zero_lt_of_lt hphase, hpulse, fun _ => rfl, fun _ => rfl⟩
  · exact h

theorem backupSound_orderEngage {t : Tables} (h : 1 ≤ t.backupPeriod) (c : Channel) :
    BackupSound t (c.orderEngage t.backupPeriod t.holdRatio t.pullInLength) :=
  ⟨rfl, rfl, rfl, h, Nat.le_refl _, fun _ => rfl, fun _ => rfl⟩

/-- The three parts of the period timing, on the channel records alone (R60, R61, R64). -/
def PeriodsFit (t : Tables) (p : PerChan Channel) : Prop :=
  PairSound t.wheelPeriod p.li p.lx ∧ PairSound t.wheelPeriod p.ri p.rx ∧ BackupSound t p.bk

theorem map_eq_self {f : Channel → Channel} {p : PerChan Channel} (h : ∀ c, f (p.get c) = p.get c) : p.map f = p := by
  rw [forall_chan] at h
  obtain ⟨h0, h1, h2, h3, h4⟩ := h
  simp only [PerChan.get] at h0 h1 h2 h3 h4
  simp only [PerChan.map, PerChan.mapIdx, h0, h1, h2, h3, h4]

theorem ChannelEvent.periodsFit {t : Tables} {p q : PerChan Channel} (h : ChannelEvent p q)
    (hmodes : ∀ c, (p.get c).mode = activeMode c) (hp : PeriodsFit t p) : PeriodsFit t q := by
  obtain ⟨hleft, hright, hbackup⟩ := id hp
  have hpulse (c : Chan) : (p.get c).mode ≠ .pulse := by
    rw [hmodes c]
    cases c <;> simp [activeMode]
  cases h with
  | count => exact ⟨hleft.count (hmodes .li) (hmodes .lx), hright.count (hmodes .ri) (hmodes .rx),
      hbackup.count (hmodes .bk)⟩
  | leftEnd => exact ⟨hleft.endPair, hright, hbackup⟩
  | rightEnd => exact ⟨hleft, hright.endPair, hbackup⟩
  | onTimeEnd c => cases c <;> exact hp
  | backupEnd => exact ⟨hleft, hright, hbackup.endPeriod⟩
  | stepPullIn => exact ⟨hleft, hright, hbackup.stepPullIn⟩
  | completePullIn => exact ⟨hleft, hright, hbackup.completePullIn⟩
  | stepPulse => rwa [map_eq_self fun c => by rw [Channel.stepPulse, if_neg (hpulse c)]]
  | completePulse => rwa [map_eq_self fun c => by rw [Channel.completePulse, if_neg (by simp [hpulse c])]]

theorem writeRatios_periodsFit {t : Tables} {p : PerChan Channel} (engaged : Bool) (wheels : PerWheel WheelRecord)
    (hmodes : ∀ c, (p.get c).mode = activeMode c) (hp : PeriodsFit t p) :
    PeriodsFit t (writeRatios t engaged wheels p) := by
  obtain ⟨hleft, hright, hbackup⟩ := hp
  have hpair (w : WheelRecord) : (if engaged then inletRatio t w else 0) ≤ t.wheelPeriod ∧
      (if engaged then exhaustRatio t w else 0) ≤ t.wheelPeriod ∧
      ((if engaged then inletRatio t w else 0) = 0 ∨ (if engaged then exhaustRatio t w else 0) = 0) := by
    cases engaged with
    | true => exact ⟨inletRatio_le t w, exhaustRatio_le t w, ratios_exclusive t w⟩
    | false => exact ⟨Nat.zero_le _, Nat.zero_le _, .inl rfl⟩
  obtain ⟨hli, hlx, hlone⟩ := hpair wheels.left
  obtain ⟨hri, hrx, hrone⟩ := hpair wheels.right
  exact ⟨hleft.writePending (hmodes .li) (hmodes .lx) hli hlx hlone,
    hright.writePending (hmodes .ri) (hmodes .rx) hri hrx hrone, hbackup⟩

theorem BlockChange.periodsSound {s t : State} (h : BlockChange s t) (hs : s.PeriodsSound)
    (hf : s.ChannelsFollowMode) (ht : s.TablesSound) : t.PeriodsSound := by
  have hpass (hm : s.mode = .pass) (hm' : s.mode = .active) : False := by simp [hm] at hm'
  cases h with
  | enterActive present clear mode =>
    intro _
    obtain ⟨-, hwheel, hbackup, -⟩ := (ht.fit (by rcases mode with h | h <;> simp [h])).bounds
    exact ⟨pairSound_orderRatio hwheel _ _, pairSound_orderRatio hwheel _ _, backupSound_orderEngage hbackup _⟩
  | fallBack => exact fun hm => nomatch hm
  | isolateActive => exact fun hm => nomatch hm
  | isolate => exact fun hm => nomatch hm
  | arm => exact fun hm => nomatch hm
  | disarmActive => exact fun hm => nomatch hm
  | disarm => exact fun hm => nomatch hm
  | clearBlocks => exact fun hm => nomatch hm
  | storeWords name r mode => exact fun hm => (hpass mode hm).elim
  | control mode =>
    exact fun _ => writeRatios_periodsFit _ _ ((followMode_active mode).1 hf) (hs mode)
  | latch c mode => exact fun hm => absurd hm mode
  | rearm c => cases c <;> exact hs
  | startPulse c length mode => exact fun hm => (hpass mode hm).elim
  | channels p event => exact fun (hm : s.mode = .active) => event.periodsFit ((followMode_active hm).1 hf) (hs hm)
  | _ => exact hs

theorem Effect.periodsSound {s t : State} (h : Effect s t) (hs : s.PeriodsSound) (hf : s.ChannelsFollowMode)
    (ht : s.TablesSound) : t.PeriodsSound := by
  cases h with
  | block t change => exact change.periodsSound hs hf ht
  | queue t change => cases change <;> exact hs
  | reset => exact fun hm => nomatch hm

end Sys2Proof.Machine

/-! The effects keep the Mode Controller with its timer (R10, R81, R85, R103) and the Wheel Records (R14, R26, R27,
R38, R39) sound. -/

namespace Sys2Proof.Machine

/-! ### The Mode Controller and the timer -/

/-- Other channel records, with no latch set that was clear. -/
theorem controllerSound_channels {s : State} (hs : s.ControllerSound) {p : PerChan Channel}
    (h : ∀ c, (s.channels.get c).latch = false → (p.get c).latch = false) :
    { s with channels := p }.ControllerSound := by
  obtain ⟨hheld, hspan, hcount, hactive⟩ := hs
  refine ⟨hheld, hspan, hcount, fun hm => ?_⟩
  obtain ⟨hrecord, hlatch, hsense⟩ := hactive hm
  exact ⟨hrecord, (anyLatch_eq_false_iff _).2 fun c => h c ((anyLatch_eq_false_iff s).1 hlatch c), hsense⟩

/-- In PASS and in ISOLATED the timer is HELD, and nothing more is asked (5.1). -/
theorem controllerSound_held {s : State} (hm : s.mode = .pass ∨ s.mode = .isolated) (ht : s.timer = .held) :
    s.ControllerSound := by
  have hno {m : Mode} (hne : m ≠ .pass ∧ m ≠ .isolated) : s.mode ≠ m := by
    rcases hm with h | h <;> rw [h]
    exacts [hne.1.symm, hne.2.symm]
  refine ⟨⟨fun _ => hm, fun _ => ht⟩, by simp [State.timerRemaining, ht], fun h => ?_,
    fun h => absurd h (hno (by simp))⟩
  rcases h with h | h | h <;> exact absurd h (hno (by simp))

/-- The timer runs on, or is preset: it is RUNNING with at most the span (R103). -/
theorem controllerSound_running {s : State} (hs : s.ControllerSound) (hrun : s.timer ≠ .held) {n : Nat}
    (hn : n ≤ s.tables.freshnessSpan) : { s with timer := .running n }.ControllerSound := by
  obtain ⟨hheld, -, hcount, hactive⟩ := hs
  exact ⟨⟨fun h => (nomatch h), fun h => absurd (hheld.2 h) hrun⟩, hn, hcount, hactive⟩

theorem takeRecord_controllerSound {s : State} (hs : s.ControllerSound) (d : DemandRecord)
    (h : s.mode.takesDemand = true) : (s.takeRecord d).ControllerSound := by
  obtain ⟨hheld, -, hcount, hactive⟩ := hs
  have hmode : ¬(s.mode = .pass ∨ s.mode = .isolated) := by rintro (hm | hm) <;> simp [hm, Mode.takesDemand] at h
  exact ⟨⟨fun h => (nomatch h), fun h => absurd h hmode⟩, Nat.le_refl _, hcount, fun hm => ⟨rfl, (hactive hm).2⟩⟩

theorem enterActive_controllerSound {s : State} (hs : s.ControllerSound) (hrecord : s.record.isSome = true)
    (hclear : s.takeoverClear = true) (hm : s.mode = .armed ∨ s.mode = .fallback) :
    s.enterActive.ControllerSound := by
  obtain ⟨hheld, hspan, hcount, -⟩ := hs
  obtain ⟨hlatch, hsense, -⟩ := (takeoverClear_iff s).1 hclear
  have hrun : s.timer ≠ .held := fun h => by
    have hmode := hheld.1 h
    rcases hm with hm | hm <;> simp [hm] at hmode
  refine ⟨⟨fun h => absurd h hrun, fun h => by simp at h⟩, hspan,
    fun _ => hcount (hm.imp_right Or.inr), fun _ => ⟨hrecord, ?_, (anySenseFault_eq_false_iff _).2 hsense⟩⟩
  refine (anyLatch_eq_false_iff _).2 fun c => ?_
  have hc := hlatch c
  cases c <;> exact hc

theorem fallBack_controllerSound {s : State} (hs : s.ControllerSound) (hm : s.mode = .active)
    (hbelow : s.fallbackCount + 1 ≠ s.tables.fallbackLimit) :
    (s.leftFor .fallback (s.fallbackCount + 1) s.timer).ControllerSound := by
  obtain ⟨hheld, hspan, hcount, -⟩ := hs
  have hlt := hcount (.inr (.inl hm))
  have hrun : s.timer ≠ .held := fun h => by simpa [hm] using hheld.1 h
  exact ⟨⟨fun h => absurd h hrun, fun h => by simp at h⟩, hspan, fun _ => Nat.lt_of_le_of_ne hlt hbelow,
    fun h => nomatch h⟩

theorem arm_controllerSound {s : State} (hpass : s.armFailure = none) : s.armed.ControllerSound := by
  obtain ⟨-, -, -, hlimit, -⟩ := (tablesFit_of_armFailure_eq_none hpass).bounds
  exact ⟨⟨fun h => (nomatch h), fun h => by simp at h⟩, Nat.le_refl _, fun _ => hlimit, fun h => nomatch h⟩

/-- In PASS the remaining is the span itself, whatever a WRITE makes of it (R103). -/
theorem storeWords_controllerSound {s : State} (hs : s.ControllerSound) (hm : s.mode = .pass) (name : TableName)
    (r : Request) : (s.storeWords name r).ControllerSound := by
  obtain ⟨hheld, -⟩ := hs
  exact controllerSound_held (.inl hm) (hheld.2 (.inl hm))

theorem judged_controllerSound {s : State} (hs : s.ControllerSound) {w : Wheel} {code : Nat}
    (hclaimed : s.mode = .active →
      (!(s.sense.get w).isFault && (senseAfter code (s.sense.get w)).isFault) = false) :
    (s.judged w code).ControllerSound := by
  obtain ⟨hheld, hspan, hcount, hactive⟩ := hs
  refine ⟨hheld, hspan, hcount, fun hm => ?_⟩
  obtain ⟨hrecord, hlatch, hsense⟩ := hactive hm
  have hok := (anySenseFault_eq_false_iff s).1 hsense
  refine ⟨hrecord, hlatch, (anySenseFault_eq_false_iff _).2 fun v => ?_⟩
  show ((s.sense.set w _).get v).isFault = false
  by_cases hv : v = w
  · subst hv
    rw [PerWheel.get_set_self]
    simpa [hok v] using hclaimed hm
  · rw [PerWheel.get_set_of_ne _ _ hv]
    exact hok v

/-- One channel record replaced by one that sets no latch. -/
theorem controllerSound_set {s : State} (hs : s.ControllerSound) {c : Chan} {x : Channel}
    (h : (s.channels.get c).latch = false → x.latch = false) :
    { s with channels := s.channels.set c x }.ControllerSound := by
  refine controllerSound_channels hs fun d hd => ?_
  by_cases hdc : d = c
  · subst hdc
    rw [PerChan.get_set_self]
    exact h hd
  · rwa [PerChan.get_set_of_ne _ _ hdc]

/-- Moves of the channels keep the latches (R70). -/
theorem controllerSound_moves {s : State} (hs : s.ControllerSound) {p : PerChan Channel}
    (h : ∀ c, ChannelMove (s.channels.get c) (p.get c)) : { s with channels := p }.ControllerSound :=
  controllerSound_channels hs fun c hc => (h c).latch.trans hc

/-- Outside ACTIVE nothing is asked of the latches. -/
theorem latchedOff_controllerSound {s : State} (hs : s.ControllerSound) (hm : s.mode ≠ .active) (c : Chan) :
    (s.latchedOff c).ControllerSound := by
  obtain ⟨hheld, hspan, hcount, -⟩ := hs
  exact ⟨hheld, hspan, hcount, fun h => absurd h hm⟩

theorem BlockChange.controllerSound {s t : State} (h : BlockChange s t) (hs : s.ControllerSound) :
    t.ControllerSound := by
  cases h with
  | timerStep r runs =>
    obtain ⟨-, hspan, -⟩ := id hs
    simp only [State.timerRemaining, runs] at hspan
    exact controllerSound_running hs (by simp [runs]) ((Nat.sub_le r 1).trans hspan)
  | preset runs => exact controllerSound_running hs (by simp [runs]) (Nat.le_refl _)
  | takeRecord d takes => exact takeRecord_controllerSound hs d takes
  | enterActive present clear mode => exact enterActive_controllerSound hs present clear mode
  | fallBack mode below => exact fallBack_controllerSound hs mode below
  | isolateActive => exact controllerSound_held (.inr rfl) rfl
  | isolate => exact controllerSound_held (.inr rfl) rfl
  | arm mode passes => exact arm_controllerSound passes
  | disarmActive => exact controllerSound_held (.inl rfl) rfl
  | disarm => exact controllerSound_held (.inl rfl) rfl
  | clearBlocks => exact controllerSound_held (.inl rfl) rfl
  | storeWords name r mode => exact storeWords_controllerSound hs mode name r
  | control => exact controllerSound_moves hs (writeRatios_move _ _ _ _)
  | judge w code claimed => exact judged_controllerSound hs claimed
  | latch c mode => exact latchedOff_controllerSound hs mode c
  | rearm c => exact controllerSound_set hs fun _ => rfl
  | startPulse c => exact controllerSound_set hs id
  | channels p event => exact controllerSound_moves hs event.move
  | _ => exact hs

theorem Effect.controllerSound {s t : State} (h : Effect s t) (hs : s.ControllerSound) : t.ControllerSound := by
  cases h with
  | block t change => exact change.controllerSound hs
  | queue t change => cases change <;> exact hs
  | reset => exact controllerSound_held (.inl rfl) rfl

/-! ### The exit values (R39, R55) -/

theorem wheelsFollowMode_exit {t : State} (h : ∀ w, ∃ v : WheelRecord, t.wheels.get w = v.exitValues)
    (he : t.engaged = false) (hc : t.peerCap = none) : t.WheelsFollowMode := by
  refine fun _ => ⟨fun w => ?_, he, hc⟩
  obtain ⟨v, hv⟩ := h w
  rw [hv]
  rfl

/-- The Wheel Records at their exit values. -/
theorem exists_exitValues (wheels : PerWheel WheelRecord) (w : Wheel) : ∃ v : WheelRecord,
    (PerWheel.mk wheels.left.exitValues wheels.right.exitValues).get w = v.exitValues := by
  cases w
  · exact ⟨wheels.left, rfl⟩
  · exact ⟨wheels.right, rfl⟩

theorem takeInputs_wheels_get (s : State) (w : Wheel) :
    s.takeInputs.wheels.get w = { s.wheels.get w with measured := (s.latestValid.get w).getD 0 } := by
  rw [← optionNumber_eq]
  cases w <;> rfl

theorem takeInputs_wheelsFollowMode {s : State} (hs : s.WheelsFollowMode) : s.takeInputs.WheelsFollowMode := by
  intro hm
  obtain ⟨hexit, hrest⟩ := hs hm
  refine ⟨fun w => ?_, hrest⟩
  rw [takeInputs_wheels_get, hexit w]
  rfl

theorem BlockChange.wheelsFollowMode {s t : State} (h : BlockChange s t) (hs : s.WheelsFollowMode) :
    t.WheelsFollowMode := by
  have hinactive {m : Mode} (hm : s.mode = m) (hne : m ≠ .active) := hs (hm ▸ hne)
  cases h with
  | enterActive => exact fun hm => absurd rfl hm
  | fallBack => exact wheelsFollowMode_exit (exists_exitValues s.wheels) rfl rfl
  | isolateActive => exact wheelsFollowMode_exit (exists_exitValues s.wheels) rfl rfl
  | isolate mode => exact fun _ => mode.elim (hinactive · (by simp)) (hinactive · (by simp))
  | arm mode => exact fun _ => hinactive mode (by simp)
  | disarmActive => exact wheelsFollowMode_exit (exists_exitValues s.wheels) rfl rfl
  | disarm mode inactive => exact fun _ => hs inactive
  | clearBlocks => exact wheelsFollowMode_exit (exists_exitValues s.wheels) rfl rfl
  | control mode => exact fun hm => absurd mode hm
  | takeInputs => exact takeInputs_wheelsFollowMode hs
  | _ => exact hs

theorem Effect.wheelsFollowMode {s t : State} (h : Effect s t) (hs : s.WheelsFollowMode) : t.WheelsFollowMode := by
  cases h with
  | block t change => exact change.wheelsFollowMode hs
  | queue t change => cases change <;> exact hs
  | reset =>
    refine wheelsFollowMode_exit (fun w => ⟨WheelRecord.reset, ?_⟩) rfl rfl
    cases w <;> rfl

/-! ### The ranges of a Wheel Record (R38) -/

theorem exitValues_sound (t : Tables) {w : WheelRecord} (h : w.measured ≤ 1000) : w.exitValues.Sound t := by
  simpa [WheelRecord.Sound, WheelRecord.exitValues, WheelRecord.reset, SlipState.held?, SlipState.ramp?] using h

theorem wheelSpeed_le {teeth factor : Nat} (ht : teeth ≤ 255) (hf : factor ≤ 65535) :
    wheelSpeed teeth factor ≤ 65279 := by
  have hproduct : teeth * factor ≤ 255 * 65535 := Nat.mul_le_mul ht hf
  unfold wheelSpeed
  omega

theorem wheelFactor_le (t : Tables) (w : Wheel) : t.wheelFactor w ≤ 65535 := by
  cases w <;> exact Nat.le_of_lt_succ (BitVec.isLt _)

/-- The run that the speed fault machine leaves: 40 in FAULT, below 40 in OK (R31, R32). -/
theorem speedFaultStep_zeroRun {w : WheelRecord} (teeth reference : Nat)
    (h : if w.speedFault then w.zeroRun = 40 else w.zeroRun < 40) :
    if (speedFaultStep teeth reference w).speedFault then (speedFaultStep teeth reference w).zeroRun = 40
    else (speedFaultStep teeth reference w).zeroRun < 40 := by
  unfold speedFaultStep
  split
  · rename_i hfault
    split
    · simp
    · simpa [hfault] using h
  · rename_i hok
    have hrun : zeroRunAfter teeth reference w.zeroRun ≤ 40 := by
      rw [if_neg hok] at h
      unfold zeroRunAfter
      split <;> (try split) <;> omega
    by_cases hmax : 40 ≤ zeroRunAfter teeth reference w.zeroRun
    · simp [Nat.le_antisymm hrun hmax]
    · simp [hmax, Nat.lt_of_not_le hmax]

/-- The speed fault machine writes the run and the speed state only. -/
theorem speedFaultStep_eq (teeth reference : Nat) (w : WheelRecord) : speedFaultStep teeth reference w =
    { w with
      speedFault := (speedFaultStep teeth reference w).speedFault
      zeroRun := (speedFaultStep teeth reference w).zeroRun } := by
  unfold speedFaultStep
  split
  · split <;> rfl
  · rfl

theorem speedWork_sound {t : Tables} {w : WheelRecord} (h : w.Sound t) (d : DemandRecord) (wheel : Wheel)
    {teeth : Nat} (ht : teeth ≤ 255) : (speedWork t d wheel teeth w).Sound t := by
  obtain ⟨htarget, hmeasured, -, -, htime, hcount, hrun, hcap, hheld, hramp, hdump, hhold⟩ := h
  unfold speedWork
  dsimp only
  rw [speedFaultStep_eq]
  exact ⟨htarget, hmeasured, wheelSpeed_le ht (wheelFactor_le t wheel), slipOf_le _ _ _ _, htime, hcount,
    speedFaultStep_zeroRun _ _ hrun, hcap, hheld, hramp, hdump, hhold⟩

/-! ### The slip work (R22 to R30) -/

/-- A transition to DUMP holds the pressure held before or the measured one; a DUMP that lasts was below the dump limit
(R25 to R27). -/
theorem slipTransition_dump {t : Tables} {base slip measured time p : Nat} {old : SlipState}
    (h : slipTransition t base slip measured time old = .dump p) :
    (old.held? = some p ∨ p = measured) ∧ (old.code = 2 → time < t.dumpLimit) := by
  cases old <;> grind [slipTransition, SlipState.held?, SlipState.code]

/-- A transition to HOLD likewise, with the hold limit (R25 to R28). -/
theorem slipTransition_hold {t : Tables} {base slip measured time p : Nat} {old : SlipState}
    (h : slipTransition t base slip measured time old = .hold p) :
    (old.held? = some p ∨ p = measured) ∧ (old.code = 1 → time < t.holdLimit) := by
  cases old <;> grind [slipTransition, SlipState.held?, SlipState.code]

/-- The ramp starts at the measured pressure and takes a step only from below the base target (R26, R28). -/
theorem slipTransition_rebuild {t : Tables} {base slip measured time p : Nat} {old : SlipState}
    (h : slipTransition t base slip measured time old = .rebuild p) : p = measured ∨ p < base + t.rebuildStep := by
  cases old <;> grind [slipTransition]

/-- The slip state of a period is FREE or one transition away (R22, R33, R36). -/
theorem nextSlipState_cases (t : Tables) (stop : Bool) (base : Nat) (w : WheelRecord) :
    nextSlipState t stop base w = .free ∨
      nextSlipState t stop base w = slipTransition t base w.slip w.measured w.stateTime w.slipState := by
  unfold nextSlipState
  split
  · exact .inl rfl
  · exact .inr rfl

theorem stateTimeAfter_le_max (old new : SlipState) (time : Nat) : stateTimeAfter old new time ≤ 65535 := by
  unfold stateTimeAfter
  split
  · split <;> omega
  · decide

/-- A state that lasts only below its limit stays within it (R24, R26, R27). -/
theorem stateTimeAfter_le {old new : SlipState} {time limit : Nat} (hpos : 1 ≤ limit)
    (h : old.code = new.code → time < limit) : stateTimeAfter old new time ≤ limit := by
  unfold stateTimeAfter
  split
  · rename_i hsame
    have hlt := h hsame.symm
    split <;> omega
  · exact hpos

theorem nextSlipState_held_le {t : Tables} {stop : Bool} {base : Nat} {w : WheelRecord} (hw : w.Sound t) {p : Nat}
    (h : (nextSlipState t stop base w).held? = some p) : p ≤ 1000 := by
  obtain ⟨-, hmeasured, -, -, -, -, -, -, hheld, -, -, -⟩ := hw
  have hfrom (horigin : w.slipState.held? = some p ∨ p = w.measured) : p ≤ 1000 :=
    horigin.elim (hheld p) fun h => h ▸ hmeasured
  obtain hfree | htrans := nextSlipState_cases t stop base w
  · simp [hfree, SlipState.held?] at h
  · rw [htrans] at h
    cases hnew : slipTransition t base w.slip w.measured w.stateTime w.slipState with
    | free => simp [hnew, SlipState.held?] at h
    | rebuild q => simp [hnew, SlipState.held?] at h
    | hold q =>
      obtain rfl : q = p := by simpa [hnew, SlipState.held?] using h
      exact hfrom (slipTransition_hold hnew).1
    | dump q =>
      obtain rfl : q = p := by simpa [hnew, SlipState.held?] using h
      exact hfrom (slipTransition_dump hnew).1

theorem nextSlipState_ramp_le {t : Tables} (hfit : TablesFit t) {stop : Bool} {base : Nat} (hbase : base ≤ t.ceiling)
    {w : WheelRecord} (hw : w.Sound t) {p : Nat} (h : (nextSlipState t stop base w).ramp? = some p) : p ≤ 1050 := by
  obtain ⟨-, hmeasured, -⟩ := hw
  obtain ⟨hceiling, -, -, -, -, -, hstep⟩ := hfit.bounds
  obtain hfree | htrans := nextSlipState_cases t stop base w
  · simp [hfree, SlipState.ramp?] at h
  · rw [htrans] at h
    cases hnew : slipTransition t base w.slip w.measured w.stateTime w.slipState with
    | rebuild q =>
      obtain rfl : q = p := by simpa [hnew, SlipState.ramp?] using h
      have horigin := slipTransition_rebuild hnew
      omega
    | _ => simp [hnew, SlipState.ramp?] at h

theorem nextSlipState_dump_time {t : Tables} (hfit : TablesFit t) {stop : Bool} {base : Nat} {w : WheelRecord} {p : Nat}
    (h : nextSlipState t stop base w = .dump p) :
    stateTimeAfter w.slipState (nextSlipState t stop base w) w.stateTime ≤ t.dumpLimit := by
  obtain ⟨-, -, -, -, hpos, -, -⟩ := hfit.bounds
  obtain hfree | htrans := nextSlipState_cases t stop base w
  · rw [hfree] at h
    cases h
  · rw [h]
    exact stateTimeAfter_le hpos (slipTransition_dump (htrans.symm.trans h)).2

theorem nextSlipState_hold_time {t : Tables} (hfit : TablesFit t) {stop : Bool} {base : Nat} {w : WheelRecord} {p : Nat}
    (h : nextSlipState t stop base w = .hold p) :
    stateTimeAfter w.slipState (nextSlipState t stop base w) w.stateTime ≤ t.holdLimit := by
  obtain ⟨-, -, -, -, -, hpos, -⟩ := hfit.bounds
  obtain hfree | htrans := nextSlipState_cases t stop base w
  · rw [hfree] at h
    cases h
  · rw [h]
    exact stateTimeAfter_le hpos (slipTransition_hold (htrans.symm.trans h)).2

theorem cycleCountAfter_le (count : Nat) : cycleCountAfter count ≤ 255 := by
  unfold cycleCountAfter
  split <;> omega

theorem slipWork_cycleCount_le {t : Tables} {stop : Bool} {base : Nat} {w : WheelRecord} (h : w.cycleCount ≤ 255) :
    (slipWork t stop base w).cycleCount ≤ 255 := by
  unfold slipWork
  dsimp only
  split
  · exact Nat.zero_le _
  · split
    · exact cycleCountAfter_le _
    · exact h

/-- The cap that a period leaves: none, the held pressure of the new state, or the one before (R22, R30). -/
theorem slipWork_cap_cases (t : Tables) (stop : Bool) (base : Nat) (w : WheelRecord) :
    (slipWork t stop base w).exhaustionCap = none ∨
      (slipWork t stop base w).exhaustionCap = (nextSlipState t stop base w).held? ∨
      (slipWork t stop base w).exhaustionCap = w.exhaustionCap := by
  unfold slipWork
  dsimp only
  split_ifs <;> simp only [true_or, or_true]

theorem slipWork_cap_le {t : Tables} {stop : Bool} {base : Nat} {w : WheelRecord} (hw : w.Sound t) {p : Nat}
    (h : (slipWork t stop base w).exhaustionCap = some p) : p ≤ 1000 := by
  obtain ⟨-, -, -, -, -, -, -, hcap, -⟩ := id hw
  obtain hnone | hheld | hkept := slipWork_cap_cases t stop base w
  · rw [hnone] at h
    cases h
  · exact nextSlipState_held_le hw (hheld.symm.trans h)
  · exact hcap p (hkept.symm.trans h)

theorem slipWork_sound {t : Tables} (hfit : TablesFit t) {stop : Bool} {base : Nat} (hbase : base ≤ t.ceiling)
    {w : WheelRecord} (hw : w.Sound t) : (slipWork t stop base w).Sound t := by
  obtain ⟨htarget, hmeasured, hspeed, hslip, -, hcount, hrun, -⟩ := id hw
  exact ⟨htarget, hmeasured, hspeed, hslip, stateTimeAfter_le_max _ _ _, slipWork_cycleCount_le hcount, hrun,
    fun _ => slipWork_cap_le hw, fun _ => nextSlipState_held_le hw, fun _ => nextSlipState_ramp_le hfit hbase hw,
    fun _ => nextSlipState_dump_time hfit, fun _ => nextSlipState_hold_time hfit⟩

theorem targetWork_sound {t : Tables} {w : WheelRecord} (h : w.Sound t) (scaled base : Nat) :
    (targetWork t scaled base w).Sound t := by
  obtain ⟨-, hrest⟩ := h
  exact ⟨targetWork_target_le t scaled base w, hrest⟩

/-! ### The Wheel Records of both wheels -/

/-- The measured pressure of a sound record replaced by another in range (R47). -/
theorem WheelRecord.Sound.withMeasured {t : Tables} {w : WheelRecord} (h : w.Sound t) {p : Nat} (hp : p ≤ 1000) :
    { w with measured := p }.Sound t := by
  obtain ⟨htarget, -, hrest⟩ := h
  exact ⟨htarget, hp, hrest⟩

theorem latestValid_getD_le {o : Option Nat} (h : ∀ p, o = some p → p ≤ 1000) : o.getD 0 ≤ 1000 := by
  cases o with
  | none => exact Nat.zero_le _
  | some p => exact h p rfl

theorem takeInputs_wheelSound {s : State} (hs : s.WheelsSound) (w : Wheel) :
    (s.takeInputs.wheels.get w).Sound s.tables := by
  obtain ⟨hrecord, -, hlatest, -⟩ := hs w
  rw [takeInputs_wheels_get]
  exact hrecord.withMeasured (latestValid_getD_le hlatest)

theorem periodWheel_sound {s : State} (hs : s.WheelsSound) (hfit : TablesFit s.tables) (w : Wheel) :
    (s.periodWheel w).Sound s.tables := by
  obtain ⟨-, hteeth, -, -⟩ := hs w
  have hspeed := speedWork_sound (takeInputs_wheelSound hs w) s.recordRead w hteeth
  exact targetWork_sound (slipWork_sound hfit (periodBase_le_ceiling s _) hspeed) _ _

/-- The tooth counters at 0 (R19). -/
theorem teeth_zero_le (w : Wheel) : (PerWheel.mk 0 0).get w ≤ 255 := by cases w <;> exact Nat.zero_le _

/-- Records at their exit values, and everything else that the part speaks of as it was: sound for any tables. -/
theorem wheelsSound_exit {s t : State} (hs : s.WheelsSound) (hw : ∀ w, t.wheels.get w = (s.wheels.get w).exitValues)
    (hteeth : t.teeth = s.teeth) (hlatest : t.latestValid = s.latestValid) (hsense : t.sense = s.sense) :
    t.WheelsSound := by
  intro w
  obtain ⟨⟨-, hmeasured, -⟩, hrest⟩ := hs w
  rw [hw, hteeth, hlatest, hsense]
  exact ⟨exitValues_sound _ hmeasured, hrest⟩

theorem exitWheels_get (wheels : PerWheel WheelRecord) (w : Wheel) :
    (PerWheel.mk wheels.left.exitValues wheels.right.exitValues).get w = (wheels.get w).exitValues := by
  cases w <;> rfl

theorem toothEdge_wheelsSound {s : State} (hs : s.WheelsSound) (w : Wheel) :
    { s with teeth := s.teeth.set w (if s.teeth.get w < 255 then s.teeth.get w + 1 else 255) }.WheelsSound := by
  intro v
  obtain ⟨hrecord, hteeth, hrest⟩ := hs v
  refine ⟨hrecord, ?_, hrest⟩
  show (s.teeth.set w _).get v ≤ 255
  by_cases hv : v = w
  · subst hv
    rw [PerWheel.get_set_self]
    split <;> omega
  · rwa [PerWheel.get_set_of_ne _ _ hv]

theorem latestAfter_le {code : Nat} {state : Sense} {latest : Option Nat} (h : ∀ p, latest = some p → p ≤ 1000)
    {p : Nat} (hp : latestAfter code state latest = some p) : p ≤ 1000 := by
  unfold latestAfter at hp
  split at hp
  · exact Option.some.inj hp ▸ codePressure_le code
  · exact h p hp

theorem senseAfter_validRun_le (code : Nat) {state : Sense} : (senseAfter code state).validRun ≤ 2 := by
  cases state with
  | fault run =>
    unfold senseAfter
    dsimp only
    split
    · split
      · exact Nat.succ_le_of_lt ‹_›
      · decide
    · decide
  | _ =>
    unfold senseAfter
    dsimp only
    split <;> decide

theorem judged_wheelsSound {s : State} (hs : s.WheelsSound) (w : Wheel) (code : Nat) :
    (s.judged w code).WheelsSound := by
  intro v
  obtain ⟨hrecord, hteeth, hlatest, hrun⟩ := hs v
  refine ⟨hrecord, hteeth, ?_⟩
  show (∀ p, (s.latestValid.set w _).get v = some p → p ≤ 1000) ∧ ((s.sense.set w _).get v).validRun ≤ 2
  by_cases hv : v = w
  · subst hv
    rw [PerWheel.get_set_self, PerWheel.get_set_self]
    exact ⟨fun p => latestAfter_le hlatest, senseAfter_validRun_le code⟩
  · rw [PerWheel.get_set_of_ne _ _ hv, PerWheel.get_set_of_ne _ _ hv]
    exact ⟨hlatest, hrun⟩

theorem BlockChange.wheelsSound {s t : State} (h : BlockChange s t) (hs : s.WheelsSound) (hf : s.WheelsFollowMode)
    (ht : s.TablesSound) : t.WheelsSound := by
  cases h with
  | fallBack => exact wheelsSound_exit hs (exitWheels_get s.wheels) rfl rfl rfl
  | isolateActive => exact wheelsSound_exit hs (exitWheels_get s.wheels) rfl rfl rfl
  | disarmActive => exact wheelsSound_exit hs (exitWheels_get s.wheels) rfl rfl rfl
  | clearBlocks => exact wheelsSound_exit hs (exitWheels_get s.wheels) rfl rfl rfl
  | storeWords name r mode =>
    obtain ⟨hexit, -⟩ := hf (by simp [mode])
    exact wheelsSound_exit hs hexit rfl rfl rfl
  | control mode =>
    intro w
    obtain ⟨-, -, hrest⟩ := hs w
    refine ⟨?_, teeth_zero_le w, hrest⟩
    rw [controlled_wheels_get]
    exact periodWheel_sound hs (ht.fit (by simp [mode])) w
  | takeInputs =>
    intro w
    obtain ⟨-, -, hrest⟩ := hs w
    exact ⟨takeInputs_wheelSound hs w, teeth_zero_le w, hrest⟩
  | toothEdge w => exact toothEdge_wheelsSound hs w
  | judge w code => exact judged_wheelsSound hs w code
  | _ => exact hs

theorem powered_wheelsSound (s : State) (straps : Nat) (inputs : PerChan Bool) :
    (s.powered straps inputs).WheelsSound := by
  have hrecord : (WheelRecord.reset.exitValues).Sound (s.powered straps inputs).tables :=
    exitValues_sound _ (Nat.zero_le _)
  intro w
  cases w <;> exact ⟨hrecord, Nat.zero_le _, fun p hp => (nomatch hp), Nat.zero_le _⟩

theorem Effect.wheelsSound {s t : State} (h : Effect s t) (hs : s.WheelsSound) (hf : s.WheelsFollowMode)
    (ht : s.TablesSound) : t.WheelsSound := by
  cases h with
  | block t change => exact change.wheelsSound hs hf ht
  | queue t change => cases change <;> exact hs
  | reset straps inputs => exact powered_wheelsSound s straps inputs

/-! ### The obligations -/

/-- Settles O56: every effect keeps the part. -/
theorem stepKeepsControllerSound : Obligations.StepKeepsControllerSound := by
  unfold Obligations.StepKeepsControllerSound
  intro s t hs h
  exact step_keeps (fun _ _ h => h) (fun _ _ heffect => heffect.controllerSound) hs h

/-- Settles O58: every effect keeps the exit values, and with them and the tables in service the ranges. -/
theorem stepKeepsWheelsSound : Obligations.StepKeepsWheelsSound := by
  unfold Obligations.StepKeepsWheelsSound
  refine ⟨fun s t hs h => ?_, fun s t hs hf ht h => ?_⟩
  · exact step_keeps (fun _ _ h => h) (fun _ _ heffect => heffect.wheelsFollowMode) hs h
  · have hall : t.WheelsSound ∧ t.WheelsFollowMode ∧ t.TablesSound :=
      step_keeps (P := fun u => u.WheelsSound ∧ u.WheelsFollowMode ∧ u.TablesSound) (fun _ _ h => h)
        (fun _ _ heffect ⟨hs, hf, ht⟩ =>
          ⟨heffect.wheelsSound hs hf ht, heffect.wheelsFollowMode hf, heffect.tablesSound ht⟩) ⟨hs, hf, ht⟩ h
    exact hall.1

/-- Every effect keeps all nine parts. -/
theorem Effect.sound {s t : State} (h : Effect s t) (hs : s.Sound) : t.Sound where
  attention := h.attentionSound hs.attention
  queues := h.queuesSound hs.queues
  valves := h.valvesSound hs.valves
  channels := h.followMode hs.channels
  periods := h.periodsSound hs.periods hs.channels hs.tables
  controller := h.controllerSound hs.controller
  tables := h.tablesSound hs.tables
  exits := h.wheelsFollowMode hs.exits
  wheels := h.wheelsSound hs.wheels hs.exits hs.tables

/-- No part speaks of the queue of commands. -/
theorem State.Sound.withPending {s : State} (hs : s.Sound) (rest : List Instr) : { s with pending := rest }.Sound :=
  { hs with }

/-- Settles O59: every effect keeps all nine parts at once. -/
theorem stepKeepsSound : Obligations.StepKeepsSound := by
  unfold Obligations.StepKeepsSound
  intro s t hs h
  exact step_keeps (fun _ rest hs => hs.withPending rest) (fun _ _ heffect => heffect.sound) hs h

end Sys2Proof.Machine

/-! Wheel speed, slip and the slip state at a control period in ACTIVE (chapter 2), by the steps of R36. -/

namespace Sys2Proof.Machine

/-! ### The record between the speed work and the slip work -/

/-- The Wheel Record after steps 1 to 3 of the wheel work: its speed, speed state and slip (R36). -/
def State.speedWheel (s : State) (w : Wheel) : WheelRecord :=
  speedWork s.tables s.recordRead w (s.teeth.get w) (s.takeInputs.wheels.get w)

theorem periodWheel_eq (s : State) (w : Wheel) : s.periodWheel w =
    targetWork s.tables (chainScaled s.tables s.recordRead) (s.periodBase s.recordRead)
      (slipWork s.tables (stopEnd s.tables s.recordRead) (s.periodBase s.recordRead) (s.speedWheel w)) := rfl

/-- The speed work writes the speed, the zero-speed run, the speed state and the slip (R20, R21, R31). -/
theorem speedWheel_eq (s : State) (w : Wheel) :
    let fault := speedFaultStep (s.teeth.get w) s.recordRead.reference.toNat (s.wheels.get w)
    let speed := wheelSpeed (s.teeth.get w) (s.tables.wheelFactor w)
    s.speedWheel w =
      { s.wheels.get w with
        measured := (s.latestValid.get w).getD 0
        speed := speed
        zeroRun := fault.zeroRun
        speedFault := fault.speedFault
        slip := slipOf fault.speedFault s.recordRead.reference.toNat s.tables.minimumReference speed } := by
  rw [State.speedWheel, takeInputs_wheels_get]
  unfold speedWork speedFaultStep
  dsimp only
  split
  · split <;> rfl
  · rfl

/-! ### Speed, zero-speed run and slip (R20, R21, R31 to R34) -/

theorem periodWheel_speed (s : State) (w : Wheel) :
    (s.periodWheel w).speed = wheelSpeed (s.teeth.get w) (s.tables.wheelFactor w) :=
  (congrArg WheelRecord.speed (speedWheel_eq s w) :)

theorem periodWheel_zeroRun (s : State) (w : Wheel) : (s.periodWheel w).zeroRun =
    (speedFaultStep (s.teeth.get w) s.recordRead.reference.toNat (s.wheels.get w)).zeroRun :=
  (congrArg WheelRecord.zeroRun (speedWheel_eq s w) :)

theorem periodWheel_speedFault (s : State) (w : Wheel) : (s.periodWheel w).speedFault =
    (speedFaultStep (s.teeth.get w) s.recordRead.reference.toNat (s.wheels.get w)).speedFault :=
  (congrArg WheelRecord.speedFault (speedWheel_eq s w) :)

theorem periodWheel_slip (s : State) (w : Wheel) : (s.periodWheel w).slip =
    slipOf (s.periodWheel w).speedFault s.recordRead.reference.toNat s.tables.minimumReference
      (s.periodWheel w).speed := by
  rw [periodWheel_speedFault, periodWheel_speed]
  exact congrArg WheelRecord.slip (speedWheel_eq s w)

theorem zeroRunAfter_eq (teeth reference run : Nat) :
    zeroRunAfter teeth reference run = if teeth = 0 ∧ 150 ≤ reference then run + 1 else 0 := by
  rw [zeroRunAfter, ite_and]

/-- In OK the run is counted, and FAULT comes at a run of 40 (R31, R32). -/
theorem speedFaultStep_of_ok {w : WheelRecord} (h : w.speedFault = false) (teeth reference : Nat) :
    (speedFaultStep teeth reference w).zeroRun = zeroRunAfter teeth reference w.zeroRun ∧
      ((speedFaultStep teeth reference w).speedFault = true ↔ 40 ≤ zeroRunAfter teeth reference w.zeroRun) := by
  simp [speedFaultStep, h]

/-- In FAULT one tooth returns the wheel to OK (R34). -/
theorem speedFaultStep_of_tooth {w : WheelRecord} (h : w.speedFault = true) {teeth : Nat} (ht : 1 ≤ teeth)
    (reference : Nat) :
    (speedFaultStep teeth reference w).zeroRun = 0 ∧ (speedFaultStep teeth reference w).speedFault = false := by
  simp [speedFaultStep, h, ht]

/-- In FAULT without a tooth the run and the state stay (R34). -/
theorem speedFaultStep_of_noTooth {w : WheelRecord} (h : w.speedFault = true) (reference : Nat) :
    speedFaultStep 0 reference w = w := by
  simp [speedFaultStep, h]

/-- The three rows of R21 that give no slip, and the one that does. -/
theorem slipOf_eq (fault : Bool) (reference minimum speed : Nat) : slipOf fault reference minimum speed =
    if fault = true ∨ reference < minimum ∨ reference ≤ speed then 0
    else (reference - speed) * 1000 / reference := by
  simp only [slipOf, ← ite_or]

/-! ### The slip state (R22, R25 to R28, R33) -/

theorem stopEnd_iff (s : State) (d : DemandRecord) : stopEnd s.tables d = true ↔ s.StopEnd d := by
  simp [stopEnd, State.StopEnd]

/-- The slip state that a period leaves, from its own slip, measured pressure and base target and the state and state
time before it (R25 to R28). -/
theorem periodWheel_slipState (s : State) (w : Wheel) : (s.periodWheel w).slipState =
    if stopEnd s.tables s.recordRead || (s.periodWheel w).speedFault then .free
    else slipTransition s.tables (s.periodBase s.recordRead) (s.periodWheel w).slip ((s.latestValid.get w).getD 0)
      (s.wheels.get w).stateTime (s.wheels.get w).slipState := by
  rw [periodWheel_eq, speedWheel_eq]
  rfl

/-- The rows of HOLD: reapply slip and the hold limit both lead to REBUILD (R26). -/
theorem slipTransition_of_hold (t : Tables) (base slip measured time p : Nat) :
    slipTransition t base slip measured time (.hold p) =
      if t.dumpThreshold ≤ slip then .dump p
      else if slip < t.reapplyThreshold ∨ t.holdLimit ≤ time then .rebuild measured
      else .hold p := by
  simp only [slipTransition, ← ite_or]

/-- The rows of DUMP: low slip and the dump limit both lead to HOLD (R27). -/
theorem slipTransition_of_dump (t : Tables) (base slip measured time p : Nat) :
    slipTransition t base slip measured time (.dump p) =
      if slip < t.holdThreshold ∨ t.dumpLimit ≤ time then .hold measured
      else .dump p := by
  simp only [slipTransition, ← ite_or]

/-! ### State time, cycle count and exhaustion cap (R22, R24, R29, R30) -/

theorem stateTimeAfter_of_same {old new : SlipState} (h : new.code = old.code) (time : Nat) :
    stateTimeAfter old new time = min 65535 (time + 1) := by
  rw [stateTimeAfter, if_pos h]
  split <;> omega

theorem stateTimeAfter_of_change {old new : SlipState} (h : new.code ≠ old.code) (time : Nat) :
    stateTimeAfter old new time = 1 := if_neg h

theorem periodWheel_stateTime (s : State) (w : Wheel) : (s.periodWheel w).stateTime =
    stateTimeAfter (s.wheels.get w).slipState (s.periodWheel w).slipState (s.wheels.get w).stateTime := by
  rw [periodWheel_eq, speedWheel_eq]
  rfl

theorem SlipState.code_eq_two_iff (x : SlipState) : x.code = 2 ↔ ∃ p, x = .dump p := by
  cases x <;> simp [SlipState.code]

/-- A transition into DUMP in the words of R29. -/
theorem entersDump_iff_exists (old new : SlipState) :
    entersDump old new = true ↔ (∃ p, new = .dump p) ∧ ∀ p, old ≠ .dump p := by
  rw [entersDump_iff, SlipState.code_eq_two_iff, ne_eq, SlipState.code_eq_two_iff, not_exists]

theorem cycleCountAfter_eq (count : Nat) : cycleCountAfter count = min 255 (count + 1) := by
  unfold cycleCountAfter
  split <;> omega

theorem exhausts_iff_entersDump (t : Tables) (old new : WheelRecord) : exhausts t old new = true ↔
    entersDump old.slipState new.slipState = true ∧ old.cycleCount < new.cycleCount ∧
      new.cycleCount = t.cycleLimit := by
  simp [exhausts, and_assoc]

/-- The cycle count that a period leaves (R22, R29). -/
theorem periodWheel_cycleCount (s : State) (w : Wheel) : (s.periodWheel w).cycleCount =
    if stopEnd s.tables s.recordRead then 0
    else if entersDump (s.wheels.get w).slipState (s.periodWheel w).slipState then
      cycleCountAfter (s.wheels.get w).cycleCount
    else (s.wheels.get w).cycleCount := by
  rw [periodWheel_eq, speedWheel_eq]
  rfl

/-- The exhaustion cap that a period leaves (R22, R30). -/
theorem periodWheel_exhaustionCap (s : State) (w : Wheel) : (s.periodWheel w).exhaustionCap =
    if stopEnd s.tables s.recordRead then none
    else if exhausts s.tables (s.wheels.get w) (s.periodWheel w) then (s.periodWheel w).slipState.held?
    else (s.wheels.get w).exhaustionCap := by
  rw [periodWheel_eq, speedWheel_eq]
  rfl

/-! ### The obligations -/

/-- Settles O40: the speed fault machine by the state it is in, and the slip by the rows of R21. -/
theorem speedAndSlipRules : Obligations.SpeedAndSlipRules := by
  unfold Obligations.SpeedAndSlipRules
  intro s t d w hm hd ht
  rw [controlPeriod_wheels hm ht w]
  dsimp only
  rw [periodWheel_slip, periodWheel_zeroRun, periodWheel_speedFault, recordRead_of_record hd, ← zeroRunAfter_eq]
  refine ⟨periodWheel_speed s w, fun hok => ?ok, fun hfault hteeth => ?tooth, fun hfault hteeth => ?noTooth,
    slipOf_eq _ _ _ _⟩
  case ok => exact speedFaultStep_of_ok hok _ _
  case tooth => exact speedFaultStep_of_tooth hfault hteeth _
  case noTooth =>
    rw [hteeth, speedFaultStep_of_noTooth hfault]
    exact ⟨rfl, hfault⟩

/-- Settles O41: FREE where the wheel does not move, otherwise the rows of the state it was in. -/
theorem slipStateRules : Obligations.SlipStateRules := by
  unfold Obligations.SlipStateRules
  intro s t d w hm hd ht
  rw [controlPeriod_wheels hm ht w]
  have hstate := periodWheel_slipState s w
  rw [recordRead_of_record hd] at hstate
  have hstops : (stopEnd s.tables d || (s.periodWheel w).speedFault) = true ↔
      s.StopEnd d ∨ (s.periodWheel w).speedFault = true := by rw [Bool.or_eq_true, stopEnd_iff]
  have hmoves (h : ¬s.StopEnd d ∧ (s.periodWheel w).speedFault = false) :
      ¬(stopEnd s.tables d || (s.periodWheel w).speedFault) = true := by rw [hstops]; simpa using h
  refine ⟨fun hfree => hstate.trans (if_pos (hstops.mpr hfree)), fun h hwas => ?free,
    fun p h hwas => ?hold, fun p h hwas => ?dump, fun p h hwas => ?rebuild⟩ <;>
    rw [if_neg (hmoves h), hwas] at hstate
  case free => exact hstate
  case hold => exact hstate.trans (slipTransition_of_hold _ _ _ _ _ _)
  case dump => exact hstate.trans (slipTransition_of_dump _ _ _ _ _ _)
  case rebuild => exact hstate

/-- Settles O42: the count and the cap at stop end, at an entry into DUMP and otherwise. -/
theorem slipCountRules : Obligations.SlipCountRules := by
  unfold Obligations.SlipCountRules
  intro s t d w hm hd ht
  rw [controlPeriod_wheels hm ht w]
  have hcount := periodWheel_cycleCount s w
  have hcap := periodWheel_exhaustionCap s w
  rw [recordRead_of_record hd] at hcount hcap
  have hstops := stopEnd_iff s d
  have hdump := entersDump_iff_exists (s.wheels.get w).slipState (s.periodWheel w).slipState
  have hexhausts := exhausts_iff_entersDump s.tables (s.wheels.get w) (s.periodWheel w)
  rw [hdump] at hexhausts
  refine ⟨fun hsame => ?same, fun hchange => ?change, fun hstop => ?stop, fun hgo henters => ?count,
    fun hgo henters hraised hlimit => ?exhausted, fun hgo henters hnot => ?unexhausted, fun hgo hstays => ?kept⟩
  case same => exact (periodWheel_stateTime s w).trans (stateTimeAfter_of_same hsame _)
  case change => exact (periodWheel_stateTime s w).trans (stateTimeAfter_of_change hchange _)
  case stop => exact ⟨hcount.trans (if_pos (hstops.mpr hstop)), hcap.trans (if_pos (hstops.mpr hstop))⟩
  case count => rw [hcount, if_neg (mt hstops.mp hgo), if_pos (hdump.mpr henters), cycleCountAfter_eq]
  case exhausted =>
    rw [hcap, if_neg (mt hstops.mp hgo), if_pos (hexhausts.mpr ⟨henters, hraised, hlimit⟩)]
  case unexhausted => rw [hcap, if_neg (mt hstops.mp hgo), if_neg fun h => hnot (hexhausts.mp h).2]
  case kept =>
    rw [if_neg (mt hstops.mp hgo)] at hcount hcap
    exact ⟨hcount.trans (if_neg (mt hdump.mp hstays)), hcap.trans (if_neg fun h => hstays (hexhausts.mp h).1)⟩

end Sys2Proof.Machine

/-! Device reset: the unit right after it is sound, so what DEVICE_RESET leaves is (R187). -/

namespace Sys2Proof.Machine

theorem Effects.sound {s t : State} (h : Effects s t) (hs : s.Sound) : t.Sound := by
  induction h with
  | refl => exact hs
  | tail _ heffect ih => exact heffect.sound ih

/-- Device reset makes every table EMPTY, so none is IN SERVICE (R161). -/
theorem servicesReset_of (name : TableName) : Services.reset.of name = .empty := by
  cases name with
  | curve c => simp [Services.of, Services.reset]
  | _ => rfl

theorem reset_eq_powered : State.reset = State.reset.powered 1 (PerChan.all false) := rfl

theorem reset_sound : State.reset.Sound where
  attention := ⟨List.Pairwise.nil, fun _ h => (nomatch h)⟩
  queues := reset_eq_powered ▸ powered_queuesSound _ _ _
  valves := reset_eq_powered ▸ powered_valvesSound _ _ _
  channels := by
    have hoff (c : Chan) : (State.reset.channels.get c).mode = .off := by cases c <;> rfl
    exact ⟨fun c => .inl (hoff c), fun c _ h => by simp [hoff c] at h⟩
  periods := fun h => (nomatch h)
  controller := by simp [State.ControllerSound, State.reset, State.timerRemaining]
  tables := fun name h => by simp [State.reset, servicesReset_of] at h
  exits := fun _ => ⟨fun w => by cases w <;> rfl, rfl, rfl⟩
  wheels := reset_eq_powered ▸ powered_wheelsSound _ _ _

/-- Settles O60: DEVICE_RESET reads nothing of the state before but the queue of commands, so it leaves what it would
leave at State.reset, which is sound and goes by effects that keep all parts. -/
theorem resetIsSound : Obligations.ResetIsSound := by
  unfold Obligations.ResetIsSound
  refine ⟨reset_sound, fun straps inputs s t h => ?_⟩
  have hfromReset : (State.afterReset straps inputs).Sound :=
    ((exec_effects (c := .deviceReset straps inputs) (s := State.reset) rfl).sound reset_sound).withPending _
  obtain rfl := Host.Outcome.next.inj h
  exact hfromReset.withPending s.pending

end Sys2Proof.Machine

/-! Pressure sensing and control (chapter 3): the codes and the SAMPLE event, the control period outside ACTIVE, the
pending ratios, and the period timing that every step keeps. -/

namespace Sys2Proof.Machine

/-! ### The conversion of a code (R42) -/

theorem codeValid_iff (code : Nat) : codeValid code = true ↔ 51 ≤ code ∧ code ≤ 972 := by
  simp [codeValid]

theorem codePressure_of_le {code : Nat} (h : code ≤ 102) : codePressure code = 0 := by
  simp [codePressure, Nat.sub_eq_zero_of_le h]

theorem codePressure_of_between {code : Nat} (h : code ≤ 920) : codePressure code = (code - 102) * 1000 / 818 := by
  have hbelow : (code - 102) * 1000 / 818 ≤ 1000 := by omega
  exact Nat.min_eq_right hbelow

theorem codePressure_of_ge {code : Nat} (h : 920 ≤ code) : codePressure code = 1000 := by
  have habove : 1000 ≤ (code - 102) * 1000 / 818 := by omega
  exact Nat.min_eq_left habove

/-! ### The sense state and the latest valid pressure (R43 to R45) -/

theorem latestAfter_of_invalid {code : Nat} (h : codeValid code = false) (state : Sense) (latest : Option Nat) :
    latestAfter code state latest = latest := by
  simp [latestAfter, h]

/-- A valid code that leaves the wheel in OK supplies its pressure (R43, R45). -/
theorem latestAfter_of_ok {code : Nat} (h : codeValid code = true) {state : Sense} (hok : senseAfter code state = .ok)
    (latest : Option Nat) : latestAfter code state latest = some (codePressure code) := by
  simp [latestAfter, h, hok, Sense.isFault]

/-- A code that leaves the wheel in FAULT supplies nothing, valid or not (R45). -/
theorem latestAfter_of_fault {code run : Nat} {state : Sense} (hfault : senseAfter code state = .fault run)
    (latest : Option Nat) : latestAfter code state latest = latest := by
  simp [latestAfter, hfault, Sense.isFault]

theorem senseAfter_of_valid {code : Nat} (h : codeValid code = true) {state : Sense}
    (hok : state = .ok ∨ state = .suspect1 ∨ state = .suspect2) : senseAfter code state = .ok := by
  rcases hok with rfl | rfl | rfl <;> exact if_pos h

/-- In FAULT two valid codes in a row are counted, and the third restores OK (R45). -/
theorem senseAfter_fault_of_valid {code : Nat} (h : codeValid code = true) (run : Nat) :
    senseAfter code (.fault run) = if run < 2 then .fault (run + 1) else .ok := if_pos h

/-- Settles O45: the conversion by its three ranges, then the rows of R43 to R45 for a valid and an invalid code. -/
theorem codeRules : Obligations.CodeRules := by
  unfold Obligations.CodeRules
  refine ⟨codeValid_iff, fun _ => codePressure_of_le, fun _ _ => codePressure_of_between, fun _ => codePressure_of_ge,
    fun code latest hvalid => ⟨fun state hok => ?leaves, fun run hrun => ?counts, ?restores⟩,
    fun code latest hinvalid => ?invalid⟩
  case leaves =>
    have hsense := senseAfter_of_valid hvalid hok
    exact ⟨hsense, latestAfter_of_ok hvalid hsense latest⟩
  case counts =>
    have hsense := (senseAfter_fault_of_valid hvalid run).trans (if_pos hrun)
    exact ⟨hsense, latestAfter_of_fault hsense latest⟩
  case restores =>
    have hsense := senseAfter_fault_of_valid hvalid 2
    exact ⟨hsense, latestAfter_of_ok hvalid hsense latest⟩
  case invalid =>
    refine ⟨?_, ?_, ?_, fun run => ?_, fun state => latestAfter_of_invalid hinvalid state latest⟩ <;>
      simp [senseAfter, hinvalid]

/-! ### SAMPLE (R41, R44, R92) -/

theorem fallenBack_raise (s : State) (k : AttentionKind) (detail : Nat) :
    (s.raise k detail).fallenBack = s.fallenBack.raise k detail := by
  unfold State.fallenBack
  show (if s.fallbackCount + 1 = s.tables.fallbackLimit then _ else _) = _
  split <;> rfl

/-- A raise and the claim of a fallback cause come in either order. -/
theorem faultClaim_raise (s : State) (k : AttentionKind) (detail : Nat) :
    (s.raise k detail).faultClaim = s.faultClaim.raise k detail := by
  rw [faultClaim_eq, faultClaim_eq, State.raise_mode]
  split
  · exact fallenBack_raise s k detail
  · rfl

/-- Of two claims in one event the first leaves ACTIVE, and the second changes nothing (R92). -/
theorem faultClaim_faultClaim (s : State) : s.faultClaim.faultClaim = s.faultClaim := by
  rw [faultClaim_eq s.faultClaim, if_neg (faultClaim_mode_ne s)]

/-- A raise and the judging of a code come in either order. -/
theorem raise_judged (s : State) (k : AttentionKind) (detail : Nat) (w : Wheel) (code : Nat) :
    (s.raise k detail).judged w code = (s.judged w code).raise k detail := rfl

theorem faultClaim_sense (s : State) : s.faultClaim.sense = s.sense := by
  rw [faultClaim_eq]
  split
  · obtain ⟨-, hto⟩ | ⟨-, hto⟩ := fallenBack_cases s <;> rw [hto] <;> rfl
  · rfl

/-- An invalid code in SUSPECT(2): the code judged, then the raise and the claim (R44). -/
theorem judgeCode_of_enters (s : State) (w : Wheel) {code : Nat}
    (h : s.sense.get w = .suspect2 ∧ codeValid code = false) :
    s.judgeCode w code = ((s.judged w code).raise .senseFault (senseDetail w)).faultClaim :=
  if_pos ((entersFault_iff _ _).mpr h)

theorem judgeCode_of_not_enters (s : State) (w : Wheel) {code : Nat}
    (h : ¬(s.sense.get w = .suspect2 ∧ codeValid code = false)) : s.judgeCode w code = s.judged w code :=
  if_neg (mt (entersFault_iff _ _).mp h)

/-- The code of the left wheel leaves the sense state of the right wheel alone. -/
theorem judgeCode_left_sense_right (s : State) (code : Nat) :
    (s.judgeCode .left code).sense.get .right = s.sense.right := by
  by_cases h : s.sense.get .left = .suspect2 ∧ codeValid code = false
  · rw [judgeCode_of_enters s .left h, faultClaim_sense]
    rfl
  · rw [judgeCode_of_not_enters s .left h]
    rfl

/-- Settles O46: by which of the wheels enter FAULT; the left wheel's claim moves behind the right wheel's code and
raise, where a second claim changes nothing. -/
theorem sampleResult : Obligations.SampleResult := by
  unfold Obligations.SampleResult
  intro s leftCode rightCode enters judged leftRaised raised
  show Host.Outcome.next ((s.judgeCode .left leftCode).judgeCode .right rightCode) = _
  have hsense := judgeCode_left_sense_right s leftCode
  have hjudged : (s.judged .left leftCode).judged .right rightCode = judged := rfl
  have hmode : judged.mode = s.mode := rfl
  by_cases hl : enters leftCode s.sense.left <;> by_cases hr : enters rightCode s.sense.right <;>
    simp only [raised, leftRaised, hl, hr, if_true, if_false, or_true, true_or, or_self, and_true, and_false]
  · rw [judgeCode_of_enters _ .right (hsense.symm ▸ hr), judgeCode_of_enters s .left hl, ← faultClaim_judged,
      ← faultClaim_raise, faultClaim_faultClaim, raise_judged, hjudged, faultClaim_eq, State.raise_mode,
      State.raise_mode, hmode]
    rfl
  · rw [judgeCode_of_not_enters _ .right (hsense.symm ▸ hr), judgeCode_of_enters s .left hl, ← faultClaim_judged,
      raise_judged, hjudged, faultClaim_eq, State.raise_mode, hmode]
    rfl
  · rw [judgeCode_of_enters _ .right (hsense.symm ▸ hr), judgeCode_of_not_enters s .left hl, hjudged, faultClaim_eq,
      State.raise_mode, hmode]
    rfl
  · rw [judgeCode_of_not_enters _ .right (hsense.symm ▸ hr), judgeCode_of_not_enters s .left hl, hjudged]

/-! ### The control period (R49, R52 to R54, R59) -/

/-- Settles O35: outside ACTIVE the event takes its inputs and ends. -/
theorem controlPeriodOutsideActive : Obligations.ControlPeriodOutsideActive := by
  unfold Obligations.ControlPeriodOutsideActive
  intro s hm
  simp only [← optionNumber_eq]
  exact congrArg Host.Outcome.next (if_neg hm)

/-- The channels after a control period in ACTIVE, by the Wheel Records and the engaged flag it leaves (R50). -/
theorem controlPeriod_channels {s t : State} (h : s.mode = .active) (ht : exec .controlPeriodEvent s = .next t) :
    t.channels = writeRatios s.tables t.engaged t.wheels s.channels := by
  rw [exec_controlPeriod_active h] at ht
  obtain rfl := Host.Outcome.next.inj ht
  rw [raisePeriod_eq, raisePeriod_eq]
  rfl

/-- Settles O44: the ratios written are those of R53 in every slip state, and 0 with the engaged flag clear. -/
theorem ratioRules : Obligations.RatioRules := by
  unfold Obligations.RatioRules
  intro s t d hm _ ht inlet exhaust written
  have hinlet (w : WheelRecord) : (if t.engaged then inletRatio s.tables w else 0) = inlet w := by
    simp only [inlet, inletRatio]
    cases t.engaged with
    | false => rfl
    | true => cases w.slipState <;> rfl
  have hexhaust (w : WheelRecord) : (if t.engaged then exhaustRatio s.tables w else 0) = exhaust w := by
    simp only [exhaust, exhaustRatio]
    cases t.engaged with
    | false => rfl
    | true => cases w.slipState <;> rfl
  rw [controlPeriod_channels hm ht, ← hinlet, ← hinlet, ← hexhaust, ← hexhaust]
  exact ⟨rfl, rfl, rfl, rfl⟩

/-! ### The period timing (R53, R60) -/

/-- Settles O55: every effect keeps the period timing together with the channel modes and the tables in service. -/
theorem stepKeepsPeriodsSound : Obligations.StepKeepsPeriodsSound := by
  unfold Obligations.StepKeepsPeriodsSound
  intro s t hs hf ht h
  have hall : t.PeriodsSound ∧ t.ChannelsFollowMode ∧ t.TablesSound :=
    step_keeps (P := fun u => u.PeriodsSound ∧ u.ChannelsFollowMode ∧ u.TablesSound) (fun _ _ h => h)
      (fun _ _ heffect ⟨hs, hf, ht⟩ =>
        ⟨heffect.periodsSound hs hf ht, heffect.followMode hf, heffect.tablesSound ht⟩) ⟨hs, hf, ht⟩ h
  exact hall.1

end Sys2Proof.Machine

/-! The valve channels (chapter 4): what every step keeps of them, and which outputs may be on. -/

namespace Sys2Proof.Machine

/-- Settles O54: every effect keeps outputs, inputs and latches, and every effect keeps the channel modes. -/
theorem stepKeepsChannelsSound : Obligations.StepKeepsChannelsSound := by
  unfold Obligations.StepKeepsChannelsSound
  refine ⟨fun s t hs h => ?_, fun s t hs h => ?_⟩
  · exact step_keeps (fun _ _ h => h) (fun _ _ heffect => heffect.valvesSound) hs h
  · exact step_keeps (fun _ _ h => h) (fun _ _ heffect => heffect.followMode) hs h

/-! ### Outputs (R57, R60, R66) -/

/-- The output of a sound channel is off in OFF (R57). -/
theorem Channel.Sound.output_of_off {c : Channel} {input : Bool} (h : c.Sound input) (hoff : c.mode = .off) :
    c.output = false := by
  obtain ⟨hout, -⟩ := h
  exact hout.trans (Channel.level_off hoff)

/-- The output of a sound channel is off with the latch set (R57). -/
theorem Channel.Sound.output_of_latch {c : Channel} {input : Bool} (h : c.Sound input) (hlatch : c.latch = true) :
    c.output = false := by
  obtain ⟨hout, -⟩ := h
  exact hout.trans (Channel.level_latched hlatch)

/-- In RATIO a sound channel is driven only with a ratio above 0 (R58). -/
theorem Channel.Sound.ratio_pos {c : Channel} {input : Bool} (h : c.Sound input) (hm : c.mode = .ratio)
    (hon : c.output = true) : 0 < c.activeRatio := by
  obtain ⟨hout, -⟩ := h
  rw [hout, Channel.level_of_running (Channel.running_of_ratio hm), Bool.and_eq_true, decide_eq_true_iff] at hon
  exact Nat.zero_lt_of_lt hon.2

/-- A channel is driven in ACTIVE, or by a pulse in PASS, and otherwise not (5.1, R66). -/
theorem output_off_or_mode {s : State} (hv : s.ValvesSound) (hm : s.ChannelsFollowMode) (c : Chan) :
    (s.channels.get c).output = false ∨ s.mode = .active ∨ (s.mode = .pass ∧ (s.channels.get c).mode = .pulse) := by
  by_cases ha : s.mode = .active
  · exact .inr (.inl ha)
  · by_cases hp : s.mode = .pass
    · obtain ⟨hmodes, -⟩ := (followMode_pass hp).1 hm
      obtain hoff | hpulse := hmodes c
      · exact .inl ((hv c).output_of_off hoff)
      · exact .inr (.inr ⟨hp, hpulse⟩)
    · exact .inl ((hv c).output_of_off ((followMode_off ha hp).1 hm c))

/-- Two channels, in RATIO while ACTIVE and there with one of their ratios 0, are never on together: outside ACTIVE at
most one channel is in PULSE (R60, R72). -/
theorem not_both_on {s : State} (hv : s.ValvesSound) (hm : s.ChannelsFollowMode) {c d : Chan} (hne : c ≠ d)
    (hc : activeMode c = .ratio) (hd : activeMode d = .ratio)
    (hratios : s.mode = .active → (s.channels.get c).activeRatio = 0 ∨ (s.channels.get d).activeRatio = 0) :
    ¬((s.channels.get c).output = true ∧ (s.channels.get d).output = true) := by
  rintro ⟨hcOn, hdOn⟩
  have hcWhere := (output_off_or_mode hv hm c).resolve_left (by simp [hcOn])
  have hdWhere := (output_off_or_mode hv hm d).resolve_left (by simp [hdOn])
  by_cases ha : s.mode = .active
  · have hmodes := (followMode_active ha).1 hm
    have hcPos := (hv c).ratio_pos ((hmodes c).trans hc) hcOn
    have hdPos := (hv d).ratio_pos ((hmodes d).trans hd) hdOn
    have hzero := hratios ha
    omega
  · obtain ⟨hp, hcPulse⟩ := hcWhere.resolve_left ha
    obtain ⟨-, hdPulse⟩ := hdWhere.resolve_left ha
    obtain ⟨-, hone⟩ := (followMode_pass hp).1 hm
    exact hne (hone c d hcPulse hdPulse)

/-- One of the two active ratios of a pair is 0 (R53, R60). -/
theorem PairSound.active_exclusive {period : Nat} {inlet exhaust : Channel} (h : PairSound period inlet exhaust) :
    inlet.activeRatio = 0 ∨ exhaust.activeRatio = 0 := by
  obtain ⟨-, -, -, -, -, -, -, -, -, -, hactive, -⟩ := h
  exact hactive

/-- Settles O51: the modes say where a channel may be on, and the pair's ratios that not both of its channels are. -/
theorem outputsOnlyWhereAllowed : Obligations.OutputsOnlyWhereAllowed := by
  unfold Obligations.OutputsOnlyWhereAllowed
  intro s hs
  have hv := hs.valves
  have hm := hs.channels
  refine ⟨fun hon => ?backup, ?left, ?right, fun hmode c => ?quiet, fun c => (hv c).output_of_latch⟩
  case backup => exact (output_off_or_mode hv hm .bk).resolve_left (ne_of_eq_of_ne hon (by decide))
  case left =>
    refine not_both_on hv hm (c := .li) (d := .lx) (by decide) rfl rfl fun ha => ?_
    obtain ⟨hpair, -, -⟩ := hs.periods ha
    exact hpair.active_exclusive
  case right =>
    refine not_both_on hv hm (c := .ri) (d := .rx) (by decide) rfl rfl fun ha => ?_
    obtain ⟨-, hpair, -⟩ := hs.periods ha
    exact hpair.active_exclusive
  case quiet =>
    refine (output_off_or_mode hv hm c).resolve_right ?_
    rcases hmode with h | h | h <;> simp [h]

end Sys2Proof.Machine

/-! The events of the valve channels (chapter 4): the fault inputs, the counts and period ends, the pull-in and the
pulses, each by what it leaves of the record. -/

namespace Sys2Proof.Machine

/-! ### Fault inputs (R69, R70, R82, R84) -/

theorem assertInput_of_latched {s : State} {c : Chan} (h : (s.channels.get c).latch = true) :
    s.assertInput c = { s with faultInputs := s.faultInputs.set c true } := by
  rw [assertInput_eq, if_pos h]

/-- A latch-set event: the channel OFF with its latch set, then the raise and the claim (R69). -/
theorem assertInput_of_clear {s : State} {c : Chan} (h : (s.channels.get c).latch = false) :
    s.assertInput c = ((s.latchedOff c).raiseLatch c).latchClaim c := if_neg (by simp [h])

theorem raiseLatch_eq_ite (s : State) (c : Chan) :
    s.raiseLatch c = if c = .bk then s.raise .backupFault 0 else s.raise .valveFault (chanNumber c) := by
  cases c <;> rfl

theorem latchClaim_of_isolated {s : State} (h : s.mode = .isolated) (c : Chan) : s.latchClaim c = s := by
  cases c <;> simp [State.latchClaim, State.backupClaim, State.faultClaim, h]

/-- A wheel channel's latch claim is a fallback cause in ACTIVE only (R82). -/
theorem latchClaim_wheel {s : State} {c : Chan} (hc : c ≠ .bk) :
    s.latchClaim c = if s.mode = .active then s.fallenBack else s := by
  rw [latchClaim_of_ne hc, faultClaim_eq]

/-- Settles O47: with the latch set the level alone changes; with it clear the claim decides, by channel and mode. -/
theorem faultInputsResult : Obligations.FaultInputsResult := by
  unfold Obligations.FaultInputsResult
  refine ⟨fun s c h => congrArg Host.Outcome.next (assertInput_of_latched h), fun _ _ => rfl, ?_⟩
  intro s c hclear off raised
  have hraised : (s.latchedOff c).raiseLatch c = raised := raiseLatch_eq_ite _ c
  have hmode : raised.mode = s.mode := hraised ▸ raiseLatch_mode (s.latchedOff c) c
  have hcount : raised.fallbackCount = s.fallbackCount := by
    rw [← hraised, raiseLatch_eq_ite]
    split <;> rfl
  have hevent : exec (.latchSetEvent c) s = .next (raised.latchClaim c) := by
    rw [← hraised, ← assertInput_of_clear hclear]
    rfl
  rw [hevent, ← hmode, ← hcount]
  refine ⟨?noClaim, fun hc => ?wheelIdle, fun hc => ?wheelActive, ?backupIdle, ?backupActive⟩
  case noClaim =>
    rintro (hm | hm)
    · rw [latchClaim_of_pass hm]
    · rw [latchClaim_of_isolated hm]
  case wheelIdle =>
    intro hm
    rw [latchClaim_wheel hc, if_neg (by rcases hm with hm | hm <;> simp [hm])]
  case wheelActive =>
    intro hm
    rw [latchClaim_wheel hc, if_pos hm]
  case backupIdle =>
    intro hc hm
    rw [hc, State.latchClaim, backupClaim_eq, if_neg (by rcases hm with hm | hm <;> simp [hm]), if_pos hm]
  case backupActive =>
    intro hc hm
    rw [hc, State.latchClaim, backupClaim_eq, if_pos hm]

/-! ### Counts and period ends (R58, R60, R65) -/

/-- A channel that runs periods is in RATIO, or in ENGAGE with the pull-in over (R57, R65). -/
theorem Channel.stage_of_running {c : Channel} (h : c.running = true) :
    c.mode = .ratio ∨ (c.mode = .engage ∧ c.pulseRemaining = 0) := by
  simp only [Channel.running, Channel.inHold, Bool.or_eq_true, Bool.and_eq_true, decide_eq_true_iff] at h
  obtain hratio | ⟨hengage, -⟩ := h
  · exact .inl hratio
  · exact .inr hengage

/-- In RATIO, and in ENGAGE with the pull-in over, the output follows the phase whatever is due (R57, R58). -/
theorem Channel.level_of_stage {c : Channel} (h : c.mode = .ratio ∨ (c.mode = .engage ∧ c.pulseRemaining = 0)) :
    c.level = (!c.latch && decide (c.phase < c.activeRatio)) := by
  obtain hratio | ⟨hengage, hdone⟩ := h
  · simp [Channel.level, hratio]
  · simp [Channel.level, hengage, hdone]

theorem Channel.drive_of_stage {c : Channel} (h : c.mode = .ratio ∨ (c.mode = .engage ∧ c.pulseRemaining = 0)) :
    c.drive = { c with output := !c.latch && decide (c.phase < c.activeRatio) } := by
  rw [Channel.drive, Channel.level_of_stage h]

/-- A count advances the phase of a channel that runs periods, up to the period end, which is then due (R58, log 4). -/
theorem Channel.count_eq (c : Channel) : c.count =
    if c.running = false then c
    else if c.phase + 1 < c.period then
      { c with phase := c.phase + 1, output := !c.latch && decide (c.phase + 1 < c.activeRatio) }
    else { c with due := .periodEnd, output := !c.latch && decide (c.phase < c.activeRatio) } := by
  split
  · exact Channel.count_of_not_running ‹_›
  · rename_i hrun
    have hrun : c.running = true := Bool.eq_true_of_not_eq_false hrun
    have hstage := Channel.stage_of_running hrun
    rw [Channel.count_of_running hrun]
    split
    · exact Channel.drive_of_stage hstage
    · exact Channel.drive_of_stage hstage

/-- The period end takes the pending ratio up at phase 0 (R60, R65). -/
theorem Channel.endPeriod_of_running {c : Channel} (h : c.running = true) :
    c.endPeriod =
      { c with
        activeRatio := c.pendingRatio, phase := 0, due := .nothing
        output := !c.latch && decide (0 < c.pendingRatio) } := by
  have hstage := Channel.stage_of_running h
  exact Channel.drive_of_stage hstage

theorem Channel.periodDue_iff (c : Channel) : c.periodDue = true ↔ c.running = true ∧ c.due = .periodEnd := by
  simp [Channel.periodDue]

theorem endPair_of_due {inlet exhaust : Channel} (hi : inlet.periodDue = true) (hx : exhaust.periodDue = true) :
    endPair inlet exhaust = (inlet.endPeriod, exhaust.endPeriod) := by
  rw [endPair, if_pos (by simp [hi, hx])]

/-- Settles O48: a count by whether the channel runs and ends its period, the period ends by the record they leave. -/
theorem periodResult : Obligations.PeriodResult := by
  unfold Obligations.PeriodResult
  intro ended atEnd
  have hended (c : Channel) (h : atEnd c) : c.endPeriod = ended c := Channel.endPeriod_of_running h.1
  have hpair (inlet exhaust : Channel) (hi : atEnd inlet) (hx : atEnd exhaust) :
      endPair inlet exhaust = (ended inlet, ended exhaust) := by
    rw [endPair_of_due (inlet.periodDue_iff.2 hi) (exhaust.periodDue_iff.2 hx), hended _ hi, hended _ hx]
  refine ⟨fun s => ?count, fun s hi hx => ?left, fun s hi hx => ?right, fun s h => ?backup,
    fun s c hrun hreached => ?onTime⟩
  case count =>
    rw [exec, execPhaseCount, funext Channel.count_eq]
  case left =>
    rw [exec, execPairPeriodEnd, hpair _ _ hi hx]
  case right =>
    rw [exec, execPairPeriodEnd, hpair _ _ hi hx]
  case backup =>
    rw [exec, execBkPeriodEnd, if_pos (s.channels.bk.periodDue_iff.2 h), hended _ h]
  case onTime =>
    rw [exec, execRatioOnTimeEnd, if_pos (by simp [hrun, hreached])]

/-! ### The pull-in and the pulses (R64, R65, R72) -/

/-- A pull-in step before the last (R64). -/
theorem Channel.stepPullIn_of_gt {c : Channel} (hm : c.mode = .engage) (h : 1 < c.pulseRemaining) :
    c.stepPullIn = { c with pulseRemaining := c.pulseRemaining - 1, output := !c.latch } := by
  have hleft : 0 < c.pulseRemaining - 1 := by omega
  have hstep : (c.mode = .engage && 0 < c.pulseRemaining) = true := by simp [hm]; omega
  rw [Channel.stepPullIn, if_pos hstep, if_neg (Nat.ne_of_gt h)]
  simp [Channel.drive, Channel.level, hm, hleft]

/-- The last pull-in step makes the completion due (R64, log 4). -/
theorem Channel.stepPullIn_of_one {c : Channel} (hm : c.mode = .engage) (h : c.pulseRemaining = 1) :
    c.stepPullIn =
      { c with
        pulseRemaining := 0, due := .pullIn
        output := !c.latch && decide (c.phase < c.activeRatio) } := by
  have hstep : (c.mode = .engage && 0 < c.pulseRemaining) = true := by simp [hm, h]
  rw [Channel.stepPullIn, if_pos hstep, if_pos h, h]
  exact Channel.drive_of_stage (.inr ⟨hm, rfl⟩)

/-- The completion of a pull-in starts the hold stage at phase 0 (R65). -/
theorem Channel.completePullIn_of_due {c : Channel} (hm : c.mode = .engage) (h : c.pulseRemaining = 0)
    (hdue : c.due = .pullIn) :
    c.completePullIn =
      { c with phase := 0, due := .nothing, output := !c.latch && decide (0 < c.activeRatio) } := by
  rw [Channel.completePullIn, if_pos (by simp [hm, h, hdue])]
  exact Channel.drive_of_stage (.inr ⟨hm, h⟩)

theorem Channel.completePullIn_of_not_due {c : Channel}
    (h : ¬(c.mode = .engage ∧ c.pulseRemaining = 0 ∧ c.due = .pullIn)) : c.completePullIn = c :=
  if_neg (by simpa [and_assoc] using h)

/-- The completion of a pulse gives OFF with the latch kept (R72). -/
theorem Channel.completePulse_eq (c : Channel) : c.completePulse =
    if c.mode = .pulse ∧ c.pulseRemaining = 0 then { Channel.reset with latch := c.latch } else c := by
  simp only [Channel.completePulse, Bool.and_eq_true, decide_eq_true_iff]
  rfl

/-- Settles O49: the pull-in by what is left of it, the pulses channel by channel. -/
theorem pulseResult : Obligations.PulseResult := by
  unfold Obligations.PulseResult
  refine ⟨fun s hm h => ?_, fun s hm h => ?_, fun s hm h hdue => ?_, fun s h => ?_, fun s => rfl, fun s => ?_⟩
  · rw [exec, execPullInStep, Channel.stepPullIn_of_gt hm h]
  · rw [exec, execPullInStep, Channel.stepPullIn_of_one hm h]
  · rw [exec, execPullInCompletion, Channel.completePullIn_of_due hm h hdue]
  · rw [exec, execPullInCompletion, Channel.completePullIn_of_not_due h]
  · rw [exec, execPulseCompletion, funext Channel.completePulse_eq]

end Sys2Proof.Machine

/-! LOOP_CLEAR (R75, R90, R142, R158, R178): the requests' checks, the list that Loop Clear leaves, and the two forms of
the request. -/

namespace Sys2Proof.Machine

/-! ### The checks of a request (9.2) -/

theorem checkFailure_of_not_admitted {s : State} {r : Request} (h : s.manageAdmitted r.source = false)
    (k : RequestKind) : s.checkFailure k r = some .refusedSource := by
  simp [State.checkFailure, h]

theorem checkFailure_of_not_wellFormed {s : State} {k : RequestKind} {r : Request}
    (hadmitted : s.manageAdmitted r.source = true) (h : wellFormedRequest k r = false) :
    s.checkFailure k r = some .badRequest := by
  simp [State.checkFailure, hadmitted, h]

theorem checkFailure_of_level {s : State} {k : RequestKind} {r : Request} (hadmitted : s.manageAdmitted r.source = true)
    (hformed : wellFormedRequest k r = true) (h : requiredLevel k < s.effectiveLevel r) :
    s.checkFailure k r = some .refusedAuthority := by
  simp [State.checkFailure, hadmitted, hformed, h]

/-- A request that passes checks 1 to 4 is judged by its operands (R148). -/
theorem checkFailure_of_passed {s : State} {k : RequestKind} {r : Request}
    (hadmitted : s.manageAdmitted r.source = true) (hformed : wellFormedRequest k r = true)
    (hlevel : s.effectiveLevel r ≤ requiredLevel k) (hmode : modeAllows k s.mode = true) :
    s.checkFailure k r = operandFailure k r := by
  simp [State.checkFailure, hadmitted, hformed, Nat.not_lt.2 hlevel, hmode]

/-- Check 1 alone raises: SOURCE_REFUSED (R144). -/
theorem judgeRequest_of_refusedSource {s : State} {k : RequestKind} {perform : State → Request → State × Reply}
    {r : Request} (h : s.checkFailure k r = some .refusedSource) :
    s.judgeRequest k perform r = (s.raise .sourceRefused r.source, Reply.plain .refusedSource) := by
  simp [State.judgeRequest, h]

/-- A failure of a later check changes nothing (R143). -/
theorem judgeRequest_of_failure {s : State} {k : RequestKind} {perform : State → Request → State × Reply}
    {r : Request} {status : Status} (h : s.checkFailure k r = some status) (hne : status ≠ .refusedSource) :
    s.judgeRequest k perform r = (s, Reply.plain status) := by
  cases status with
  | refusedSource => exact absurd rfl hne
  | _ => simp [State.judgeRequest, h]

theorem judgeRequest_of_passes {s : State} {k : RequestKind} {perform : State → Request → State × Reply}
    {r : Request} (h : s.checkFailure k r = none) : s.judgeRequest k perform r = perform s r := by
  simp [State.judgeRequest, h]

/-! ### The list after Loop Clear (R75, R178) -/

/-- A raise passes over the entries of higher priority (R174). -/
theorem raiseIn_append {k : AttentionKind} {front : List AttentionEntry} (h : ∀ e ∈ front, e.kind.code < k.code)
    (detail : Nat) (seen : Option Byte) (l : List AttentionEntry) :
    raiseIn k detail seen (front ++ l) = front ++ raiseIn k detail seen l := by
  induction front with
  | nil => rfl
  | cons e front ih =>
    have he : e.kind.code < k.code := h e List.mem_cons_self
    have hne : e.kind ≠ k := fun heq => by simp [heq] at he
    rw [List.cons_append, raiseIn, if_neg hne, if_pos he, ih fun x hx => h x (List.mem_cons_of_mem _ hx),
      List.cons_append]

/-- The BACKUP_FAULT entry where the latch of BK stays set (R178). -/
def backupEntries (set : Bool) : List AttentionEntry :=
  if set then [{ kind := .backupFault, detail := 0, repeats := 1, firstSeen := none }] else []

theorem backupEntries_above (set : Bool) : ∀ e ∈ backupEntries set, e.kind.code < AttentionKind.valveFault.code := by
  cases set <;> decide

/-- The VALVE_FAULT entry of the wheel channels with these numbers, the latest as detail (R174, R178). -/
def valveEntries (numbers : List Nat) : List AttentionEntry :=
  if numbers = [] then []
  else [{ kind := .valveFault, detail := numbers.getLast?.getD 0, repeats := numbers.length, firstSeen := none }]

theorem valveEntries_of_ne_nil {numbers : List Nat} (h : numbers ≠ []) : valveEntries numbers =
    [{ kind := .valveFault, detail := numbers.getLast?.getD 0, repeats := numbers.length, firstSeen := none }] :=
  if_neg h

/-- One more raise of VALVE_FAULT: its entry begins, or counts one more (R174). -/
theorem raiseIn_valveEntries {numbers : List Nat} (h : numbers.length < 255) (number : Nat) :
    raiseIn .valveFault number none (valveEntries numbers) = valveEntries (numbers ++ [number]) := by
  by_cases hnil : numbers = []
  · rw [hnil]
    rfl
  · rw [valveEntries_of_ne_nil hnil, valveEntries_of_ne_nil (by simp), List.getLast?_concat, List.length_append,
      raiseIn, if_pos rfl, AttentionEntry.again, if_pos h]
    rfl

/-- The raises of VALVE_FAULT for a list of wheel channels, behind the entries of higher priority. -/
theorem raiseValves_eq {front : List AttentionEntry} (hfront : ∀ e ∈ front, e.kind.code < AttentionKind.valveFault.code)
    (numbers : List Nat) (h : numbers.length ≤ 255) :
    numbers.foldl (fun l number => raiseIn .valveFault number none l) front = front ++ valveEntries numbers := by
  induction numbers using List.reverseRecOn with
  | nil => simp [valveEntries]
  | append_singleton numbers number ih =>
    rw [List.length_append, List.length_singleton] at h
    rw [List.foldl_append, ih (by omega), List.foldl_cons, List.foldl_nil, raiseIn_append hfront,
      raiseIn_valveEntries (by omega)]

/-- The review of wheel channels: a raise for each latch that is set (R75). -/
theorem reviewWheels_eq {wheels : List Chan} (hwheels : .bk ∉ wheels) (s : State) :
    wheels.foldl State.reviewLatch s =
      { s with
        attention := ((wheels.filter fun c => (s.channels.get c).latch).map chanNumber).foldl
          (fun l number => raiseIn .valveFault number s.lastRollSequence l) s.attention } := by
  induction wheels generalizing s with
  | nil => rfl
  | cons c wheels ih =>
    obtain ⟨hc, hrest⟩ : .bk ≠ c ∧ .bk ∉ wheels := List.ne_and_not_mem_of_not_mem_cons hwheels
    rw [List.foldl_cons, State.reviewLatch, raiseLatch_eq_ite, if_neg (Ne.symm hc), List.filter_cons]
    split
    · rw [ih hrest]
      rfl
    · exact ih hrest s

/-- The review of BK on an empty list. -/
theorem reviewBackup_eq {s : State} (hempty : s.attention = []) (hseen : s.lastRollSequence = none) :
    s.reviewLatch .bk = { s with attention := backupEntries s.channels.bk.latch } := by
  unfold State.reviewLatch backupEntries
  show (if s.channels.bk.latch = true then _ else _) = _
  split
  · rw [State.raiseLatch, State.raise, hempty, hseen]
    rfl
  · rw [← hempty]

/-- The review of all five channels in channel order leaves an entry for each kind of latch that is set (R75, R178). -/
theorem reviewLatches_eq {s : State} (hempty : s.attention = []) (hseen : s.lastRollSequence = none) :
    ((((s.reviewLatch .bk).reviewLatch .li).reviewLatch .lx).reviewLatch .ri).reviewLatch .rx =
      { s with attention := latchEntries (s.channels.map Channel.latch) } := by
  have hwheels (t : State) : (((t.reviewLatch .li).reviewLatch .lx).reviewLatch .ri).reviewLatch .rx =
      ([.li, .lx, .ri, .rx] : List Chan).foldl State.reviewLatch t := rfl
  have hget : (fun c => (s.channels.get c).latch) = (s.channels.map Channel.latch).get :=
    funext fun c => (PerChan.get_map _ _ c).symm
  have hlength := List.length_filter_le (s.channels.map Channel.latch).get [.li, .lx, .ri, .rx]
  rw [hwheels, reviewBackup_eq hempty hseen, reviewWheels_eq (by decide)]
  simp only [hget, hseen]
  rw [raiseValves_eq (backupEntries_above _) _ (by rw [List.length_map]; exact hlength.trans (by decide))]
  rfl

/-- Loop Clear leaves the cleared blocks with an entry for each kind of latch that stays set (R75, R178). -/
theorem loopCleared_eq (s : State) : s.loopCleared =
    { s.clearBlocks with
      attention := latchEntries (s.channels.mapIdx fun c channel => channel.latch && s.faultInputs.get c) } :=
  reviewLatches_eq rfl rfl

/-! ### The take of a LOOP CLEAR (R142, R158) -/

/-- A LOOP CLEAR that this unit takes, addressed or broadcast: its handling, then its passing on (R131). -/
theorem exec_loopClear {s : State} {e : RxEntry} {rest : List RxEntry} {kind : KindTag} (hd : s.Dispatches kind e rest)
    (hrow : rowOf s.station kind .complete (frameOf e) = .request .loopClear) :
    exec .loopClear s =
      .next ((s.handleLoopClear (frameOf e)).1.passOn rest (s.handleLoopClear (frameOf e)).2) := by
  obtain ⟨-, hstatus, -, -, hsource⟩ := id hd
  obtain ⟨hqueue, -⟩ := (handleLoopClear_handles hstatus hsource).changes.queues
  exact congrArg Host.Outcome.next (take_of_dispatches hd hrow hqueue)

/-- The done field is byte 8 of the body, so byte 12 of the frame (R180, R182). -/
theorem setDone_content {e : RxEntry} (h : 6 ≤ e.bytes.length) (done : Byte) :
    { frameOf e with body := (frameOf e).body.set 8 done }.content = (contentOf e.bytes).set 12 done := by
  conv_rhs => rw [← Frame.content_ofContent (content_length h)]
  rfl

theorem done_eq {e : RxEntry} (h : 6 ≤ e.bytes.length) :
    (Request.ofFrame (frameOf e)).done = (contentOf e.bytes).getD 12 0 := by
  conv_rhs => rw [← Frame.content_ofContent (content_length h)]
  rfl

/-- A broadcast LOOP CLEAR, judged: the frame leaves with this station's position of the done field (R142, R158). -/
theorem exec_loopClear_broadcast {s t : State} {e : RxEntry} {rest : List RxEntry} {r : Request} {reply : Reply}
    (h : s.Carries e rest r) (ht : r.target = 15) (hk : r.kindCode = 8)
    (hjudged : s.judgeRequest .loopClear State.performLoopClear r = (t, reply)) :
    exec .loopClear s = .next (t.passOn rest ((contentOf e.bytes).set 12
      (writePosition ((contentOf e.bytes).getD 12 0) s.station (reply.status = .done)))) := by
  have hrow := rowOf_broadcast h ht hk
  obtain ⟨hd, hvalid, -, rfl⟩ := h
  obtain ⟨-, -, hlong, -, -⟩ := id hd
  have hother : (Request.ofFrame (frameOf e)).target ≠ s.station := by
    simp only [stationValid, Bool.and_eq_true, decide_eq_true_iff] at hvalid
    omega
  rw [exec_loopClear hd hrow, State.handleLoopClear, if_neg hother, hjudged, ← done_eq hlong, ← setDone_content hlong]

/-- Settles O34: the request is judged by its checks, and performed it leaves the cleared blocks and their list. -/
theorem loopClearResult : Obligations.LoopClearResult := by
  unfold Obligations.LoopClearResult
  intro s e rest r kept cleared position
  have hcleared : s.loopCleared = cleared := by
    rw [loopCleared_eq]
    simp only [cleared, ← Services.release_eq_released]
    rfl
  refine ⟨?addressed, fun h ht hk => ⟨?source, ?refused, ?performed⟩⟩
  case addressed =>
    rintro ⟨h, ht, hk, hadmitted, hformed, hlevel, hmode⟩
    have hjudged := judgeRequest_of_passes (perform := State.performLoopClear)
      (checkFailure_of_passed hadmitted hformed hlevel hmode)
    have hrow := rowOf_request h ht hk
    obtain ⟨hd, -, -, rfl⟩ := h
    rw [exec_loopClear hd hrow, State.handleLoopClear, if_pos ht, State.answer, hjudged, State.performLoopClear,
      hcleared]
    rfl
  case source =>
    intro hadmitted
    exact exec_loopClear_broadcast h ht hk
      (judgeRequest_of_refusedSource (checkFailure_of_not_admitted hadmitted .loopClear))
  case refused =>
    rintro hadmitted (hformed | hlevel)
    · exact exec_loopClear_broadcast h ht hk
        (judgeRequest_of_failure (checkFailure_of_not_wellFormed hadmitted hformed) (by decide))
    · cases hformed : wellFormedRequest .loopClear r with
      | false =>
        exact exec_loopClear_broadcast h ht hk
          (judgeRequest_of_failure (checkFailure_of_not_wellFormed hadmitted hformed) (by decide))
      | true =>
        exact exec_loopClear_broadcast h ht hk
          (judgeRequest_of_failure (checkFailure_of_level hadmitted hformed hlevel) (by decide))
  case performed =>
    intro hadmitted hformed hlevel
    rw [← hcleared]
    exact exec_loopClear_broadcast h ht hk
      (judgeRequest_of_passes (checkFailure_of_passed hadmitted hformed hlevel rfl))

end Sys2Proof.Machine

/-! The takes that set the mode of the axle (chapter 5): the demand that enters ACTIVE (R80, R81, R87) and DISARM in
each mode (R89). -/

namespace Sys2Proof.Machine

/-! ### The checks of Demand Admission (R97 to R100) -/

theorem takesDemand_iff (m : Mode) : m.takesDemand = true ↔ m = .armed ∨ m = .active ∨ m = .fallback := by
  cases m <;> decide

theorem demandAdmitted_iff (s : State) (source : Nat) : s.demandAdmitted source = true ↔
    s.services.map ≠ .empty ∧ ∃ a, s.tables.map[source]? = some a ∧ a.demand = true := by
  cases h : s.tables.map[source]? <;> simp [State.demandAdmitted, h]

theorem demandBodyValid_iff (f : Frame) : demandBodyValid f = true ↔
    7 ≤ f.body.length ∧ (DemandRecord.ofFrame f).demand.toNat ≤ 1000 ∧
      (DemandRecord.ofFrame f).reference.toNat ≤ 1500 := by
  simp [demandBodyValid, and_assoc]

theorem sequenceNewer_iff (last : Option Byte) (sequence : Byte) : sequenceNewer last sequence = true ↔
    ∀ l, last = some l → 1 ≤ (sequence - l).toNat ∧ (sequence - l).toNat ≤ 127 := by
  cases last <;> simp [sequenceNewer]

/-- A frame that passes checks 1 to 4 is a demand taken (R101). -/
theorem judgeDemand_of_admits {s : State} {e : RxEntry} {rest : List RxEntry} {d : DemandRecord}
    (h : s.Admits e rest d) : s.judgeDemand (frameOf e) = s.takeDemand d := by
  obtain ⟨-, hstation, hmode, hmap, hsource, hlength, rfl, hdemand, hreference, hnewer⟩ := h
  have htakes := (takesDemand_iff s.mode).2 hmode
  have hadmitted : s.demandAdmitted (frameOf e).source.toNat = true := (demandAdmitted_iff s _).2 ⟨hmap, hsource⟩
  have hvalid := (demandBodyValid_iff (frameOf e)).2 ⟨hlength, hdemand, hreference⟩
  have hsequence := (sequenceNewer_iff s.lastSequence _).2 hnewer
  simp [State.judgeDemand, hstation, htakes, hadmitted, hvalid, hsequence]

/-- The take of a DEMAND frame: the judging, then the frame passed on unchanged (R96, R131). -/
theorem exec_demandFrame_of_dispatches {s : State} {e : RxEntry} {rest : List RxEntry}
    (h : s.Dispatches .demand e rest) :
    exec .demandFrame s = .next ((s.judgeDemand (frameOf e)).passOn rest (contentOf e.bytes)) := by
  obtain ⟨-, -, -, -, hsource⟩ := id h
  obtain ⟨hqueue, -⟩ := (judgeDemand_changes (s := s) hsource).queues
  exact congrArg Host.Outcome.next (take_of_dispatches h (rowOf_demand h) hqueue)

/-! ### The take and its claim (R80, R87, R101, R102) -/

theorem reentryAfter_eq_reentryWith (s : State) (sequence : Byte) :
    reentryAfter s.lastSequence sequence s.reentryCount = s.reentryWith sequence := by
  unfold reentryAfter State.reentryWith
  cases s.lastSequence with
  | none => rfl
  | some l =>
    have hcount : (if s.reentryCount < 255 then s.reentryCount + 1 else 255) = min 255 (s.reentryCount + 1) := by
      split <;> omega
    dsimp only
    rw [hcount]

theorem takeRecord_eq_taken (s : State) (d : DemandRecord) : s.takeRecord d = s.taken d := by
  rw [State.takeRecord, reentryAfter_eq_reentryWith]
  rfl

/-- Under R80 and R87 the claim of a take is the entry to ACTIVE. -/
theorem demandTakenClaim_of_enters {s : State} {d : DemandRecord} (h : s.Enters d) :
    (s.taken d).demandTakenClaim d.demand.toNat = (s.taken d).enterActive := by
  obtain ⟨hmode, hzero, hlatch, hsense, hpeer⟩ := h
  have hclear : (s.taken d).takeoverClear = true := (takeoverClear_iff (s.taken d)).2 ⟨hlatch, hsense, hpeer⟩
  unfold State.demandTakenClaim
  obtain harmed | ⟨hfallback, hreentry, hcount⟩ := hmode
  · have hm : (s.taken d).mode = .armed := harmed
    simp [hm, hzero, hclear]
  · have hm : (s.taken d).mode = .fallback := hfallback
    have hr : 3 ≤ (s.taken d).reentryCount := hreentry
    have hc : (s.taken d).fallbackCount < (s.taken d).tables.fallbackLimit := hcount
    simp [hm, hzero, hclear, hr, hc]

/-! ### The orders of the entry to ACTIVE (R61, R64, R81) -/

/-- In RATIO with ratio 0 the output is off, whatever the latch (R57). -/
theorem Channel.orderRatio_eq (c : Channel) (period : Nat) : c.orderRatio period =
    { mode := .ratio, period := period, activeRatio := 0, pendingRatio := 0, phase := 0, latch := c.latch
      pulseRemaining := 0, output := false, due := .nothing } := by
  simp [Channel.orderRatio, Channel.drive, Channel.level]

/-- During the pull-in the output is on unless the latch is set (R57). -/
theorem Channel.orderEngage_eq (c : Channel) (period holdRatio : Nat) {pullIn : Nat} (h : 0 < pullIn) :
    c.orderEngage period holdRatio pullIn =
      { mode := .engage, period := period, activeRatio := holdRatio, pendingRatio := holdRatio, phase := 0
        latch := c.latch, pulseRemaining := pullIn, output := !c.latch, due := .nothing } := by
  simp [Channel.orderEngage, Channel.drive, Channel.level, h]

/-- The entry to ACTIVE with every latch clear: BK at the start of its pull-in, the wheel channels at ratio 0. -/
theorem enterActive_channels_of_clear {s : State} (h : ∀ c, (s.channels.get c).latch = false)
    (hpull : 0 < s.tables.pullInLength) : s.enterActive.channels =
      let wheel := { Channel.reset with mode := .ratio, period := s.tables.wheelPeriod }
      let backup :=
        { Channel.reset with
          mode := .engage, period := s.tables.backupPeriod, activeRatio := s.tables.holdRatio
          pendingRatio := s.tables.holdRatio, pulseRemaining := s.tables.pullInLength, output := true }
      { bk := backup, li := wheel, lx := wheel, ri := wheel, rx := wheel } := by
  obtain ⟨hbk, hli, hlx, hri, hrx⟩ := forall_chan.1 h
  simp only [PerChan.get] at hbk hli hlx hri hrx
  simp [State.enterActive, Channel.orderRatio_eq, Channel.orderEngage_eq _ _ _ hpull, hbk, hli, hlx, hri, hrx,
    Channel.reset]

/-- Settles O16: the frame is taken by its checks, its claim enters ACTIVE, and the latches being clear the orders of
R61 and R64 leave these records. -/
theorem entryToActiveResult : Obligations.EntryToActiveResult := by
  unfold Obligations.EntryToActiveResult
  intro s e rest d hadmits henters hpull wheel backup
  obtain ⟨-, -, hlatch, -⟩ := id henters
  have hchannels : (s.taken d).enterActive.channels =
      { bk := backup, li := wheel, lx := wheel, ri := wheel, rx := wheel } :=
    enterActive_channels_of_clear (s := s.taken d) hlatch hpull
  rw [exec_demandFrame_of_dispatches hadmits.1, judgeDemand_of_admits hadmits, State.takeDemand, takeRecord_eq_taken,
    demandTakenClaim_of_enters henters, ← hchannels]
  rfl

/-! ### Requests addressed to this station (R131, R149) -/

/-- The take of a request that passes checks 1 to 5: it is performed, and its reply goes out in its place. -/
theorem request_of_passes {s t : State} {k : RequestKind} {e : RxEntry} {rest : List RxEntry} {r : Request}
    {reply : Reply} {perform : State → Request → State × Reply} (h : s.Passes k e rest r)
    (hoperands : operandFailure k r = none) (hperform : perform s r = (t, reply))
    (hqueue : t.receiveQueue = s.receiveQueue) (hstation : t.station = s.station) :
    s.request k perform = t.replyWith e rest r reply := by
  obtain ⟨hcarries, htarget, hkind, hadmitted, hformed, hlevel, hmode⟩ := h
  have hrow := rowOf_request hcarries htarget hkind
  have hjudged := judgeRequest_of_passes (perform := perform)
    ((checkFailure_of_passed hadmitted hformed hlevel hmode).trans hoperands)
  rw [hperform] at hjudged
  obtain ⟨hdispatches, -, -, rfl⟩ := hcarries
  have hanswer : s.answer k perform (frameOf e) =
      (t, ((frameOf e).reply t.station (Request.ofFrame (frameOf e)).tag reply).content) := by
    rw [State.answer, hjudged, hstation]
  rw [State.request, take_of_dispatches hdispatches hrow (by rw [hanswer, hqueue]), hanswer]
  rfl

/-! ### DISARM in each mode (R83, R89, R109) -/

theorem disarm_of_pass {s : State} (h : s.mode = .pass) : s.disarm = s := if_pos h

/-- From ACTIVE the leaving act as well (R83). -/
theorem disarm_of_active {s : State} (h : s.mode = .active) :
    s.disarm = { s.leftFor .pass s.fallbackCount .held with services := s.services.released } := by
  rw [State.disarm, if_neg (by simp [h]), if_pos h, Services.release_eq_released]
  rfl

theorem disarm_of_other {s : State} (hpass : s.mode ≠ .pass) (hactive : s.mode ≠ .active) : s.disarm =
    { s.forcedOff with mode := .pass, services := s.services.released, timer := .held, reentryCount := 0 } := by
  rw [State.disarm, if_neg hpass, if_neg hactive, Services.release_eq_released]

/-- DISARM touches neither the Receive Queue nor the station number, on which its reply rests. -/
theorem disarm_frame (s : State) : s.disarm.receiveQueue = s.receiveQueue ∧ s.disarm.station = s.station := by
  unfold State.disarm
  split
  · exact ⟨rfl, rfl⟩
  · split <;> exact ⟨rfl, rfl⟩

theorem exec_disarm_of_passes {s : State} {e : RxEntry} {rest : List RxEntry} {r : Request}
    (h : s.Passes .disarm e rest r) :
    exec .disarm s = .next (s.disarm.replyWith e rest r (Reply.plain .done)) := by
  obtain ⟨hqueue, hstation⟩ := disarm_frame s
  exact congrArg Host.Outcome.next (request_of_passes h rfl rfl hqueue hstation)

/-- Settles O30: DISARM is answered DONE, with what it does in each mode. -/
theorem disarmResult : Obligations.DisarmResult := by
  unfold Obligations.DisarmResult
  intro s e rest r h
  rw [exec_disarm_of_passes h]
  refine ⟨fun hpass => ?pass, fun hactive => ?active, fun hmode => ?other⟩
  case pass => rw [disarm_of_pass hpass]
  case active => rw [disarm_of_active hactive]
  case other =>
    have hne : s.mode ≠ .pass ∧ s.mode ≠ .active := by rcases hmode with hm | hm | hm <;> simp [hm]
    obtain ⟨hpass, hactive⟩ := hne
    rw [disarm_of_other hpass hactive]
    rfl

end Sys2Proof.Machine

/-! Demand Admission and the Freshness Timer (chapter 6): the demand that enters no mode (R101, R102), the frames that
the checks turn away (R97 to R100), the counts (R103, R19) and the expiry (R105). -/

namespace Sys2Proof.Machine

/-! ### A take that enters no mode (R80, R87, R101) -/

/-- Where a condition of R80 or R87 fails, the claim of a take changes nothing. -/
theorem demandTakenClaim_of_not_enters {s : State} {d : DemandRecord} (h : ¬s.Enters d) :
    (s.taken d).demandTakenClaim d.demand.toNat = s.taken d := by
  obtain hkept | ⟨-, hzero, hclear, hmode⟩ := demandTakenClaim_cases (s.taken d) d.demand.toNat
  · exact hkept
  · exact absurd ⟨hmode, hzero, (takeoverClear_iff (s.taken d)).1 hclear⟩ h

/-- Settles O15: the checks pass, so the demand is taken (R101), and its claim adds nothing. -/
theorem demandTakenResult : Obligations.DemandTakenResult := by
  unfold Obligations.DemandTakenResult
  intro s e rest d hadmits henters
  rw [exec_demandFrame_of_dispatches hadmits.1, judgeDemand_of_admits hadmits, State.takeDemand, takeRecord_eq_taken,
    demandTakenClaim_of_not_enters henters]

/-! ### The first check that fails (R97 to R100) -/

theorem judgesDemand_iff (s : State) : (stationValid s.station && s.mode.takesDemand) = true ↔
    stationValid s.station = true ∧ (s.mode = .armed ∨ s.mode = .active ∨ s.mode = .fallback) := by
  rw [Bool.and_eq_true, takesDemand_iff]

theorem judgeDemand_of_not_judged {s : State} (f : Frame)
    (hjudged : ¬(stationValid s.station && s.mode.takesDemand) = true) : s.judgeDemand f = s := by
  simp only [State.judgeDemand, hjudged, Bool.not_false, if_true]

theorem judgeDemand_of_not_admitted {s : State} {f : Frame}
    (hjudged : (stationValid s.station && s.mode.takesDemand) = true)
    (hadmitted : ¬s.demandAdmitted f.source.toNat = true) :
    s.judgeDemand f = s.raise .sourceRefused f.source.toNat := by
  simp [State.judgeDemand, hjudged, hadmitted]

theorem judgeDemand_of_not_valid {s : State} {f : Frame}
    (hjudged : (stationValid s.station && s.mode.takesDemand) = true)
    (hadmitted : s.demandAdmitted f.source.toNat = true) (hvalid : ¬demandBodyValid f = true) :
    s.judgeDemand f = s.raise .frameDamaged 3 := by
  simp [State.judgeDemand, hjudged, hadmitted, hvalid]

theorem judgeDemand_of_not_newer {s : State} {f : Frame}
    (hjudged : (stationValid s.station && s.mode.takesDemand) = true)
    (hadmitted : s.demandAdmitted f.source.toNat = true) (hvalid : demandBodyValid f = true)
    (hnewer : ¬sequenceNewer s.lastSequence (DemandRecord.ofFrame f).sequence = true) : s.judgeDemand f = s := by
  simp [State.judgeDemand, hjudged, hadmitted, hvalid, hnewer]

/-- Settles O17: each check of the model asks what the manual says of it, and the first that fails decides. -/
theorem demandNotTakenResult : Obligations.DemandNotTakenResult := by
  unfold Obligations.DemandNotTakenResult
  intro s e rest hdispatches f d judged admitted valid
  have hjudged : _ ↔ judged := judgesDemand_iff s
  have hadmitted : _ ↔ admitted := demandAdmitted_iff s f.source.toNat
  have hvalid : _ ↔ valid := demandBodyValid_iff f
  rw [exec_demandFrame_of_dispatches hdispatches, ← hjudged, ← hadmitted, ← hvalid]
  refine ⟨fun hj => ?notJudged, fun hj ha => ?notAdmitted, fun hj ha hv => ?notValid,
    fun l hj ha hv hlast hdifference => ?notNewer⟩
  case notJudged => rw [judgeDemand_of_not_judged _ hj]
  case notAdmitted => rw [judgeDemand_of_not_admitted hj ha]
  case notValid => rw [judgeDemand_of_not_valid hj ha hv]
  case notNewer =>
    have hnewer : ¬sequenceNewer s.lastSequence d.sequence = true := by
      rw [sequenceNewer_iff]
      intro h
      obtain ⟨hlow, hhigh⟩ := h l hlast
      omega
    rw [judgeDemand_of_not_newer hj ha hv hnewer]

/-! ### The counts and the expiry (R19, R103, R105) -/

theorem exec_timerStep_of_running {s : State} {r : Nat} (h : s.timer = .running r) :
    exec .timerStep s = .next { s with timer := .running (r - 1) } := by
  simp only [exec, execTimerStep, h]

theorem exec_timerStep_of_held {s : State} (h : s.timer = .held) : exec .timerStep s = .next s := by
  simp only [exec, execTimerStep, h]

theorem exec_toothEdge (s : State) (w : Wheel) :
    exec (.toothEdge w) s = .next { s with teeth := s.teeth.set w (min 255 (s.teeth.get w + 1)) } := by
  have hcount : (if s.teeth.get w < 255 then s.teeth.get w + 1 else 255) = min 255 (s.teeth.get w + 1) := by
    split <;> omega
  rw [← hcount]
  rfl

/-- Settles O18: the counts of the timer by its two states, and that of a tooth counter. -/
theorem countersResult : Obligations.CountersResult :=
  ⟨fun _ _ => exec_timerStep_of_running, fun _ => exec_timerStep_of_held, exec_toothEdge⟩

theorem exec_expiry_of_due {s : State} (h : s.timer = .running 0) : exec .expiry s = .next s.expire :=
  congrArg Host.Outcome.next (if_pos h)

theorem exec_expiry_of_not_due {s : State} (h : s.timer ≠ .running 0) : exec .expiry s = .next s :=
  congrArg Host.Outcome.next (if_neg h)

/-- Settles O19: the claim of the expiry is a fallback cause, which acts in ACTIVE only (R82). -/
theorem expiryResult : Obligations.ExpiryResult := by
  unfold Obligations.ExpiryResult
  intro s lost
  have hexpire : s.expire = if s.mode = .active then lost.fallenBack else lost := faultClaim_eq lost
  refine ⟨fun hdue hmode => ?elsewhere, fun hdue hmode => ?active, exec_expiry_of_not_due⟩
  case elsewhere => rw [exec_expiry_of_due hdue, hexpire, if_neg hmode]
  case active => rw [exec_expiry_of_due hdue, hexpire, if_pos hmode]

end Sys2Proof.Machine

/-! Roll frames (chapter 7): the positions of a field (R116 to R119, R183), the slot (R120), and the handling of a ROLL
frame by its five steps (R114, R115). -/

namespace Sys2Proof.Machine

/-! ### Positions of a field (R116, R117, R183) -/

theorem positionBit_getLsbD (n : Nat) {m : Nat} (hm : m < 8) : (positionBit n).getLsbD m = decide (m = n) := by
  rw [positionBit, BitVec.getLsbD_ofNat, Nat.testBit_two_pow, decide_eq_true hm, Bool.true_and, decide_eq_decide]
  exact eq_comm

/-- Writing position `n` writes that one bit (R183). -/
theorem writePosition_getLsbD (field : Byte) (n : Nat) (value : Bool) {m : Nat} (hm : m < 8) :
    (writePosition field n value).getLsbD m = if m = n then value else field.getLsbD m := by
  have hbit := positionBit_getLsbD n hm
  cases value with
  | true =>
    show (field ||| positionBit n).getLsbD m = _
    rw [BitVec.getLsbD_or, hbit]
    split <;> simp [*]
  | false =>
    show (field &&& ~~~positionBit n).getLsbD m = _
    rw [BitVec.getLsbD_and, BitVec.getLsbD_not, hbit]
    split <;> simp [*]

/-- The watched positions are those of the peer mask but the own one (R116). -/
theorem watched_getLsbD (s : State) {n : Nat} (hn : n < 8) :
    s.watched.getLsbD n = true ↔ n ≠ s.station ∧ s.tables.peerMask.getLsbD n = true := by
  rw [State.watched, BitVec.getLsbD_and, BitVec.getLsbD_not, positionBit_getLsbD s.station hn, decide_eq_true hn,
    Bool.true_and, Bool.and_eq_true, Bool.not_eq_true', decide_eq_false_iff_not, and_comm]

/-- A watched position shows its condition where the field differs from the sense (R116). -/
theorem watched_and_xor_getLsbD (s : State) (field sense : Byte) {n : Nat} (hn : n < 8) :
    (s.watched &&& (field ^^^ sense)).getLsbD n = true ↔
      n ≠ s.station ∧ s.tables.peerMask.getLsbD n = true ∧ field.getLsbD n ≠ sense.getLsbD n := by
  rw [BitVec.getLsbD_and, Bool.and_eq_true, watched_getLsbD s hn, BitVec.getLsbD_xor, bne_iff_ne, and_assoc]

theorem lowestPosition_eq_some_iff (field : Byte) (n : Nat) : lowestPosition field = some n ↔
    n < 8 ∧ field.getLsbD n = true ∧ ∀ m, m < n → field.getLsbD m = false := by
  have hrange : lowestPosition field = (List.range 8).find? fun n => field.getLsbD n := rfl
  rw [hrange, List.find?_range_eq_some]
  simp only [List.mem_range, Bool.not_eq_true', and_left_comm]

/-! ### What this station shows of itself (R118 to R120) -/

theorem ready_iff (s : State) : s.ready = true ↔ (s.mode = .armed ∨ s.mode = .active) ∧
    (∀ c, (s.channels.get c).latch = false) ∧ ∀ w, (s.sense.get w).isFault = false := by
  rw [← anyLatch_eq_false_iff, ← anySenseFault_eq_false_iff]
  simp [State.ready, and_assoc]

theorem slipping_iff (x : SlipState) : x.slipping = true ↔ ∃ p, x = .hold p ∨ x = .dump p := by
  cases x <;> simp [SlipState.slipping]

theorem slips_iff (s : State) : s.slips = true ↔ s.mode = .active ∧ ∃ w p,
    (s.wheels.get w).slipState = .hold p ∨ (s.wheels.get w).slipState = .dump p := by
  have hwheel : (∃ w, (s.wheels.get w).slipState.slipping = true) ↔
      s.wheels.left.slipState.slipping = true ∨ s.wheels.right.slipState.slipping = true :=
    ⟨fun ⟨w, h⟩ => by cases w; exacts [.inl h, .inr h], fun h => h.elim (⟨.left, ·⟩) (⟨.right, ·⟩)⟩
  simp only [← slipping_iff]
  rw [hwheel]
  simp [State.slips]

theorem topKindCode_eq_elim (l : List AttentionEntry) :
    topKindCode l = l.head?.elim 0 fun entry => entry.kind.code := by
  cases l <;> rfl

/-- Settles O20: each position by its bit, this station's own by their conditions, and the slot by its bytes. -/
theorem positionRules : Obligations.PositionRules := by
  unfold Obligations.PositionRules
  refine ⟨fun s field n hn => ⟨?notReady, ?slip⟩, fun field n m value _ hm => writePosition_getLsbD field n value hm,
    lowestPosition_eq_some_iff, fun s => ⟨ready_iff s, slips_iff s, ?slot⟩⟩
  case notReady => exact watched_and_xor_getLsbD s field s.tables.readySense hn
  case slip => exact watched_and_xor_getLsbD s field s.tables.slipSense hn
  case slot => rw [State.slot, topKindCode_eq_elim]

/-! ### Steps 1 to 3: the peers, the run, its raise and claim (R115 to R117) -/

theorem runAfter_eq (notReady : Bool) (run : Nat) :
    runAfter notReady run = if notReady = true then min 255 (run + 1) else 0 := by
  unfold runAfter
  split
  · split <;> omega
  · rfl

theorem evaluatePeers_eq_withPeers (s : State) (f : Frame) : s.evaluatePeers f = s.withPeers f := by
  simp only [State.evaluatePeers, State.withPeers, runAfter_eq, decide_eq_true_eq]

theorem claimsPeers_iff (m : Mode) : m.claimsPeers = true ↔ m = .armed ∨ m = .active ∨ m = .fallback := by
  cases m <;> decide

/-- A run of 2 rises to 3 exactly where a watched position shows not ready (R117). -/
theorem withPeers_run_of_two {s : State} (f : Frame) (h : s.notReadyRun = 2) :
    (s.withPeers f).notReadyRun = 3 ↔ s.showsNotReady (f.body.getD 1 0) ≠ 0 := by
  simp [State.withPeers, h]

theorem rollConditions_eq_afterPeers (s : State) (f : Frame) : s.rollConditions f = s.afterPeers f := by
  have hrises : (decide (s.notReadyRun = 2) && decide ((s.withPeers f).notReadyRun = 3) && s.mode.claimsPeers) = true ↔
      s.notReadyRun = 2 ∧ s.showsNotReady (f.body.getD 1 0) ≠ 0 ∧
        (s.mode = .armed ∨ s.mode = .active ∨ s.mode = .fallback) := by
    rw [Bool.and_eq_true, Bool.and_eq_true, decide_eq_true_eq, decide_eq_true_eq, claimsPeers_iff, and_assoc]
    exact and_congr_right fun h => and_congr_left' (withPeers_run_of_two f h)
  simp only [State.rollConditions, State.afterPeers, evaluatePeers_eq_withPeers, peerNotReadyClaim_eq, hrises]
  rfl

theorem fallenBack_station (s : State) : s.fallenBack.station = s.station := by
  unfold State.fallenBack
  split <;> rfl

theorem afterPeers_station (s : State) (f : Frame) : (s.afterPeers f).station = s.station := by
  unfold State.afterPeers
  dsimp only
  split
  · split
    · exact fallenBack_station _
    · rfl
  · rfl

/-! ### Step 4: the own positions (R118, R119) -/

/-- The frame with this station's own positions written. -/
def State.positionedFrame (s : State) (f : Frame) : Frame := { f with body := s.writePositions f.body }

theorem positionedFrame_content (s : State) (f : Frame) : (s.positionedFrame f).content = s.positioned f.content := rfl

theorem positionedFrame_body_length (s : State) (f : Frame) :
    (s.positionedFrame f).body.length = f.body.length := writePositions_length s f.body

/-- The own positions stand in bytes 1 and 2 of the body; the rest is as received. -/
theorem positionedFrame_body_getD (s : State) (f : Frame) {i : Nat} (h : 3 ≤ i) :
    (s.positionedFrame f).body.getD i 0 = f.body.getD i 0 := by
  have h1 : 1 ≠ i := by omega
  have h2 : 2 ≠ i := by omega
  simp [State.positionedFrame, State.writePositions, List.getElem?_set_ne h1, List.getElem?_set_ne h2]

theorem positionedFrame_count (s : State) (f : Frame) : (s.positionedFrame f).bodyByte 3 = f.bodyByte 3 :=
  congrArg BitVec.toNat (positionedFrame_body_getD s f (Nat.le_refl 3))

/-! ### Step 5: the slot list (R120, R121) -/

/-- Some slot of the list has this station number: the numbers stand in byte 8 of the frame and every tenth after it
(R182). -/
def Frame.HasSlotOf (f : Frame) (station : Nat) : Prop :=
  ∃ k, k < f.bodyByte 3 ∧ (f.content.getD (8 + 10 * k) 0).toNat = station

theorem Frame.content_getD (f : Frame) (i : Nat) : f.content.getD (i + 4) 0 = f.body.getD i 0 := rfl

theorem slotStations_contains_iff (f : Frame) (station : Nat) :
    (slotStations (f.bodyByte 3) (f.body.drop 4)).contains station = true ↔ f.HasSlotOf station := by
  have hbyte (k : Nat) : f.content.getD (8 + 10 * k) 0 = (f.body.drop 4).getD (10 * k) 0 := by
    have hindex : 8 + 10 * k = 4 + 10 * k + 4 := by omega
    rw [hindex, Frame.content_getD]
    simp [List.getElem?_drop]
  simp only [slotStations_eq, List.contains_iff_mem, List.mem_map, List.mem_range, Frame.HasSlotOf, hbyte]

theorem positionedFrame_hasSlotOf (s : State) (f : Frame) (station : Nat) :
    (s.positionedFrame f).HasSlotOf station ↔ f.HasSlotOf station := by
  have hbyte (k : Nat) : (s.positionedFrame f).content.getD (8 + 10 * k) 0 = f.content.getD (8 + 10 * k) 0 := by
    have hindex : 8 + 10 * k = 4 + 10 * k + 4 := by omega
    rw [hindex, Frame.content_getD, Frame.content_getD, positionedFrame_body_getD s f (by omega)]
  simp only [Frame.HasSlotOf, positionedFrame_count, hbyte]

theorem appendSlot_of_duplicate {s : State} {f : Frame} (h : f.HasSlotOf s.station) :
    s.appendSlot f = (s.raise .stationClash 0, f.content) :=
  if_pos ((slotStations_contains_iff f s.station).2 h)

theorem appendSlot_of_full {s : State} {f : Frame} (h : ¬f.HasSlotOf s.station) (hfull : 6 ≤ f.bodyByte 3) :
    s.appendSlot f = (s.raise .stationClash 1, f.content) := by
  rw [← slotStations_contains_iff] at h
  exact (if_neg h).trans (if_pos hfull)

/-- The slot appended, with the body length in byte 3 of the frame and the slot count in byte 7 (R120, R182). -/
theorem appendSlot_of_free {s : State} {f : Frame} (h : ¬f.HasSlotOf s.station) (hfree : f.bodyByte 3 < 6) :
    s.appendSlot f = (s, (f.content.set 3 (BitVec.ofNat 8 (f.body.length + 10))).set 7
      (BitVec.ofNat 8 (f.bodyByte 3 + 1)) ++ s.slot) := by
  rw [← slotStations_contains_iff] at h
  have hlength : (f.body.set 3 (BitVec.ofNat 8 (f.bodyByte 3 + 1)) ++ s.slot).length = f.body.length + 10 := by
    simp [State.slot]
  refine (if_neg h).trans ((if_neg (Nat.not_le.mpr hfree)).trans ?_)
  rw [Frame.withBody, hlength]
  rfl

/-! ### The handling of a ROLL frame (R114, R115) -/

theorem handleRoll_of_malformed {s : State} {f : Frame} (h : ¬RollShaped f) :
    s.handleRoll f = (s.raise .frameDamaged 1, f.markDamaged.content) := by
  rw [← rollShape_iff] at h
  simp [State.handleRoll, h]

theorem handleRoll_of_shaped {s : State} {f : Frame} (h : RollShaped f) :
    s.handleRoll f = (s.afterPeers f).appendSlot ((s.afterPeers f).positionedFrame f) := by
  simp only [State.handleRoll, (rollShape_iff f).2 h, rollConditions_eq_afterPeers]
  rfl

/-- The take of a ROLL frame: the handling, then the frame as the handling leaves it (R131). -/
theorem exec_rollFrame_of_dispatches {s : State} {e : RxEntry} {rest : List RxEntry} (h : s.Dispatches .roll e rest)
    (hvalid : stationValid s.station = true) : exec .rollFrame s =
      .next ((s.handleRoll (frameOf e)).1.passOn rest (s.handleRoll (frameOf e)).2) := by
  obtain ⟨-, hstatus, -⟩ := id h
  obtain ⟨hqueue, -⟩ := (handleRoll_handles (s := s) hstatus).changes.queues
  exact congrArg Host.Outcome.next (take_of_dispatches h (rowOf_roll h hvalid) hqueue)

/-- Settles O21: by the shape of the body, then by the slots that the frame brings. -/
theorem rollFrameResult : Obligations.RollFrameResult := by
  unfold Obligations.RollFrameResult
  intro s e rest hdispatches hvalid f content count t duplicate
  obtain ⟨-, -, hlength, -⟩ := id hdispatches
  have hcontent : f.content = content := Frame.content_ofContent (content_length hlength)
  have hpositioned : (t.positionedFrame f).content = t.positioned content := by rw [positionedFrame_content, hcontent]
  have hduplicate : (t.positionedFrame f).HasSlotOf t.station ↔ duplicate := by
    rw [positionedFrame_hasSlotOf, afterPeers_station, Frame.HasSlotOf, hcontent]
  rw [exec_rollFrame_of_dispatches hdispatches hvalid, ← hduplicate, ← hpositioned]
  refine ⟨fun hmalformed => ?malformed, fun hshaped hdup => ?duplicate, fun hshaped hdup hcount => ?full,
    fun hshaped hdup hcount => ?free⟩
  case malformed =>
    rw [handleRoll_of_malformed hmalformed, ← Frame.markDamaged_content (content_length hlength)]
    rfl
  case duplicate => rw [handleRoll_of_shaped hshaped, appendSlot_of_duplicate hdup]
  case full =>
    rw [handleRoll_of_shaped hshaped,
      appendSlot_of_full hdup ((positionedFrame_count t f).trans hcount).ge]
  case free =>
    rw [handleRoll_of_shaped hshaped, appendSlot_of_free hdup ((positionedFrame_count t f).trans_lt hcount),
      positionedFrame_count, positionedFrame_body_length]

end Sys2Proof.Machine

/-! The frame path (chapter 8): what every step keeps of the queues, the reception of a frame and its end tag (R126 to
R130), the takes that dispatch to no block (R131 to R133), and the transmission, whose frames are received as sent (R134,
R135). -/

namespace Sys2Proof.Machine

/-! ### The queues (R127, R134, R136) -/

/-- Settles O53: every effect keeps the queues sound. -/
theorem stepKeepsQueuesSound : Obligations.StepKeepsQueuesSound := by
  unfold Obligations.StepKeepsQueuesSound
  intro s t hs h
  exact step_keeps (fun _ _ h => h) (fun _ _ heffect => heffect.queuesSound) hs h

/-! ### The start of a frame and its characters (R126, R127) -/

theorem exec_frameStart_of_free {s : State} (h : s.receiver = .ready) (hfree : s.receiveQueue.length < 4) :
    exec .frameStart s =
      .next { s with receiver := .receiving, receiveQueue := s.receiveQueue ++ [RxEntry.reserved] } := by
  simp [exec, execFrameStart, h, hfree]

theorem exec_frameStart_of_full {s : State} (h : s.receiver = .ready) (hfull : 4 ≤ s.receiveQueue.length) :
    exec .frameStart s = .next { s.raise .queueOverrun 0 with receiver := .ignoring } := by
  simp [exec, execFrameStart, h, Nat.not_lt.mpr hfull]

theorem exec_frameStart_of_not_ready {s : State} (h : s.receiver ≠ .ready) : exec .frameStart s = .next s := by
  cases hr : s.receiver with
  | ready => exact absurd hr h
  | _ => simp [exec, execFrameStart, hr]

/-- Settles O6: by the receiver, then by the free entries of the Receive Queue. -/
theorem frameStartResult : Obligations.FrameStartResult := by
  unfold Obligations.FrameStartResult
  exact fun s => ⟨exec_frameStart_of_free, exec_frameStart_of_full, exec_frameStart_of_not_ready⟩

theorem RxEntry.store_of_free {e : RxEntry} (h : e.status = .inFlight) (hfree : e.bytes.length < 80) (data : Byte)
    (stopAtMark : Bool) : e.store data stopAtMark =
      { e with bytes := e.bytes ++ [data], framingFailed := e.framingFailed || !stopAtMark } := by
  simp [RxEntry.store, h, hfree]

theorem RxEntry.store_of_full {e : RxEntry} (hfull : 80 ≤ e.bytes.length) (data : Byte) (stopAtMark : Bool) :
    e.store data stopAtMark = e := by
  simp [RxEntry.store, Nat.not_lt.mpr hfull]

theorem inFlight_eq_none {s : State} (h : s.receiver ≠ .receiving) : s.inFlight = none := by
  cases hf : s.inFlight with
  | none => rfl
  | some e => exact absurd (inFlight_eq_some hf).1 h

/-- A character goes to the entry in flight, which is the last (R126). -/
theorem exec_character_of_inFlight {s : State} {front : List RxEntry} {e : RxEntry} (data : Byte) (stopAtMark : Bool)
    (hr : s.receiver = .receiving) (hq : s.receiveQueue = front ++ [e]) (hs : e.status = .inFlight) :
    exec (.characterCompletion data stopAtMark) s =
      .next { s with receiveQueue := front ++ [e.store data stopAtMark] } := by
  simp [exec, execCharacterCompletion, inFlight_of_append hr hq hs, hq, updateLast_append]

theorem exec_receiverIdle (s : State) : exec .receiverIdle s =
    .next (if s.receiver = .awaitIdle ∨ s.receiver = .ignoring then { s with receiver := .ready } else s) := by
  cases hr : s.receiver <;> simp [exec, execReceiverIdle, hr]

/-- Settles O7: the entry in flight stores the character while it holds fewer than 80 bytes; idle by the receiver. -/
theorem characterAndIdleResult : Obligations.CharacterAndIdleResult := by
  unfold Obligations.CharacterAndIdleResult
  refine ⟨fun s front e data stop hr hq hs hfree => ?stored, fun s front e data stop hr hq hs hfull => ?full,
    fun s data stop hr => ?outside, exec_receiverIdle⟩
  case stored => rw [exec_character_of_inFlight data stop hr hq hs, e.store_of_free hs hfree]
  case full => rw [exec_character_of_inFlight data stop hr hq hs, e.store_of_full hfull, ← hq]
  case outside => simp [exec, execCharacterCompletion, inFlight_eq_none hr]

/-! ### The end of a frame (R128 to R130) -/

/-- A row of R128 from the second on makes the entry DAMAGED when idle ends it. -/
def RxEntry.Wrong (e : RxEntry) : Prop :=
  e.framingFailed = true ∨ e.bytes.length < 6 ∨
    ((e.bytes.getD 1 0).getLsbD 0 = false ∧ e.bytes.length ≠ 6 + (e.bytes.getD 3 0).toNat) ∨
    receivedCheck e.bytes ≠ checkCode (contentOf e.bytes)

theorem RxEntry.not_wrong_iff (e : RxEntry) : ¬e.Wrong ↔ e.framingFailed = false ∧ 6 ≤ e.bytes.length ∧
    ((e.bytes.getD 1 0).getLsbD 0 = false → e.bytes.length = 6 + (e.bytes.getD 3 0).toNat) ∧
    receivedCheck e.bytes = checkCode (contentOf e.bytes) := by
  simp only [RxEntry.Wrong, not_or, not_and, not_not, Bool.not_eq_true, Nat.not_lt, ne_eq]

theorem idleTag_of_wrong {e : RxEntry} (h : e.Wrong) : e.idleTag = .damaged := by
  unfold RxEntry.idleTag
  split_ifs with hframing hshort hlength hcheck
  iterate 4 rfl
  obtain h | h | h | h := h
  · exact absurd h hframing
  · exact absurd h hshort
  · exact absurd (by simpa using h) hlength
  · exact absurd h hcheck

theorem idleTag_of_not_wrong {e : RxEntry} (h : ¬e.Wrong) : e.idleTag = .complete := by
  obtain ⟨hframing, hlong, hlength, hcheck⟩ := e.not_wrong_iff.1 h
  unfold RxEntry.idleTag
  rw [if_neg (by simp [hframing]), if_neg (Nat.not_lt.mpr hlong), if_neg (by simpa using hlength),
    if_neg (not_not_intro hcheck)]

theorem not_wrong_of_idleTag {e : RxEntry} (h : e.idleTag = .complete) : ¬e.Wrong :=
  fun hwrong => nomatch (idleTag_of_wrong hwrong).symm.trans h

theorem exec_frameCompletion_of_inFlight {s : State} {front : List RxEntry} {e : RxEntry}
    (hr : s.receiver = .receiving) (hq : s.receiveQueue = front ++ [e]) (hs : e.status = .inFlight)
    (hheld : 1 ≤ e.bytes.length) :
    exec .frameCompletion s =
      .next { s with receiver := .ready, receiveQueue := front ++ [e.finish e.idleTag] } := by
  have hne : e.bytes ≠ [] := List.ne_nil_of_length_pos hheld
  simp [exec, execFrameCompletion, inFlight_of_append hr hq hs, hq, updateLast_append, hne]

theorem exec_overlongCompletion_of_inFlight {s : State} {front : List RxEntry} {e : RxEntry}
    (hr : s.receiver = .receiving) (hq : s.receiveQueue = front ++ [e]) (hs : e.status = .inFlight)
    (hfull : e.bytes.length = 80) :
    exec .overlongCompletion s =
      .next { s with receiver := .ignoring, receiveQueue := front ++ [e.finish .overlong] } := by
  simp [exec, execOverlongCompletion, inFlight_of_append hr hq hs, hq, updateLast_append, hfull]

/-- Settles O8: the entry in flight is finished with the tag of its rows. -/
theorem frameEndResult : Obligations.FrameEndResult := by
  unfold Obligations.FrameEndResult
  intro s front e hr hq hs n kind wrong
  refine ⟨fun hheld hwrong => ?damaged, fun hheld hright => ?complete,
    exec_overlongCompletion_of_inFlight hr hq hs⟩
  case damaged =>
    rw [exec_frameCompletion_of_inFlight hr hq hs hheld, idleTag_of_wrong hwrong]
    rfl
  case complete =>
    rw [exec_frameCompletion_of_inFlight hr hq hs hheld, idleTag_of_not_wrong hright]
    rfl

/-! ### The takes that dispatch to no block (R131 to R133) -/

theorem takeable_eq_none_of_waits {s : State} (h : s.receiveQueue = [] ∨
    (∃ e rest, s.receiveQueue = e :: rest ∧ e.status = .inFlight) ∨ 4 ≤ s.transmitQueue.length) :
    s.takeable = none := by
  obtain hempty | ⟨e, rest, hq, hs⟩ | hfull := h
  · simp [State.takeable, hempty]
  · simp [State.takeable, hq, hs]
  · unfold State.takeable
    split
    · rfl
    · split
      · rfl
      · rw [if_neg (Nat.not_lt.mpr hfull)]

/-- Each of the thirteen commands of the Frame Engine is a take of the head by its row (R131). -/
theorem exec_eq_take {c : Instr} (h : takesHead c = true) (s : State) :
    ∃ row handle, exec c s = .next (s.take row handle) := by
  cases c with
  | damagedFrameForward | forwardUnchanged | demandFrame | rollFrame | manageAddressing | read | write | arm | disarm
  | acknowledge | rearmChannel | exercise | loopClear => exact ⟨_, _, rfl⟩
  | _ => exact nomatch h

/-- Settles O9: a take with nothing to take changes nothing. -/
theorem headWaits : Obligations.HeadWaits := by
  unfold Obligations.HeadWaits
  intro c s hc hwaits
  obtain ⟨row, handle, hexec⟩ := exec_eq_take hc s
  rw [hexec, take_of_takeable_eq_none (takeable_eq_none_of_waits hwaits)]

/-- The take of the head by its row, where the handling leaves the Receive Queue alone. -/
theorem take_of_canTake {s : State} {e : RxEntry} {rest : List RxEntry} {kind : KindTag} {ending : EndTag}
    {row : TakeRow} {handle : RxEntry → State → State × List Byte} (hc : s.CanTake e rest)
    (he : e.status = .finished kind ending) (hr : rowOf s.station kind ending (frameOf e) = row)
    (hq : (handle e s).1.receiveQueue = s.receiveQueue) :
    s.take row handle = (handle e s).1.passOn rest (handle e s).2 := by
  obtain ⟨hhead, -, -⟩ := id hc
  simp only [State.take, takeable_of_canTake hc he, hr, if_true, hq, hhead]
  rfl

theorem rowOf_of_not_complete {ending : EndTag} (h : ending ≠ .complete) (station : Nat) (kind : KindTag) (f : Frame) :
    rowOf station kind ending f = .damagedFrameForward := by
  cases ending with
  | complete => exact absurd rfl h
  | damaged | overlong => rfl

theorem damageDetail_eq {e : RxEntry} {kind : KindTag} {ending : EndTag} (h : e.status = .finished kind ending) :
    damageDetail e = if ending = .overlong then 2 else 1 := by
  cases ending <;> simp [damageDetail, h]

/-- The bytes kept of a DAMAGED or OVERLONG entry, before the mark is set (R132). -/
def keptBytes (bytes : List Byte) : List Byte :=
  if 6 ≤ bytes.length then bytes.take (bytes.length - 2)
  else if 4 ≤ bytes.length then bytes.take 4
  else bytes ++ List.replicate (4 - bytes.length) 0

theorem four_le_keptBytes_length (bytes : List Byte) : 4 ≤ (keptBytes bytes).length := by
  unfold keptBytes
  split
  · rw [List.length_take]; omega
  · split
    · rw [List.length_take]; omega
    · rw [List.length_append, List.length_replicate]; omega

/-- Four zero bytes added and the first 4 taken: the entry cut or filled to 4 bytes. -/
theorem keptBytes_eq (bytes : List Byte) :
    (if 6 ≤ bytes.length then contentOf bytes else (bytes ++ [0, 0, 0, 0]).take 4) = keptBytes bytes := by
  unfold keptBytes
  split
  · rfl
  · split
    · exact List.take_append_of_le_length ‹_›
    · have hzeros : ([0, 0, 0, 0] : List Byte) = List.replicate 4 0 := rfl
      rw [List.take_append, List.take_of_length_le (by omega), hzeros, List.take_replicate,
        Nat.min_eq_left (by omega)]

theorem damagedContent_eq (bytes : List Byte) :
    damagedContent bytes = (keptBytes bytes).set 1 ((keptBytes bytes).getD 1 0 ||| 1) := by
  simp only [damagedContent, keptBytes_eq]
  exact Frame.markDamaged_content (four_le_keptBytes_length bytes)

theorem exec_forwardUnchanged_of_row {s : State} {e : RxEntry} {rest : List RxEntry} {kind : KindTag}
    (hc : s.CanTake e rest) (he : e.status = .finished kind .complete)
    (hr : rowOf s.station kind .complete (frameOf e) = .forwardUnchanged) :
    exec .forwardUnchanged s = .next (s.passOn rest (contentOf e.bytes)) :=
  congrArg Host.Outcome.next (take_of_canTake (handle := fun e s => (s, contentOf e.bytes)) hc he hr rfl)

/-- Settles O10: the end tag gives the row, the detail and the bytes kept; a marked COMPLETE frame goes on as it is. -/
theorem damagedForwardResult : Obligations.DamagedForwardResult := by
  unfold Obligations.DamagedForwardResult
  refine ⟨?damaged, fun s e rest kind hc he hmark => ?marked⟩
  case damaged =>
    intro s e rest kind ending hc he hending kept
    have htake := take_of_canTake
      (handle := fun e s => (s.raise .frameDamaged (damageDetail e), damagedContent e.bytes)) hc he
      (rowOf_of_not_complete hending _ _ _) rfl
    rw [damageDetail_eq he, damagedContent_eq] at htake
    exact congrArg Host.Outcome.next htake
  case marked => exact exec_forwardUnchanged_of_row hc he (by simp [rowOf, hmark])

/-- The COMPLETE frames that R133 dispatches to no block. -/
theorem rowOf_eq_forwardUnchanged {station : Nat} {kind : KindTag} {f : Frame} (h : 15 < f.source.toNat ∨
      kind = .reply ∨ kind = .other ∨ (stationValid station = false ∧ (kind = .roll ∨ kind = .manage))) :
    rowOf station kind .complete f = .forwardUnchanged := by
  obtain hsource | rfl | rfl | ⟨hstation, rfl | rfl⟩ := h
  · simp [rowOf, hsource]
  · simp [rowOf]
  · simp [rowOf]
  · simp [rowOf, hstation]
  · simp [rowOf, hstation]

/-- Settles O11: the row of the head is FORWARD_UNCHANGED. -/
theorem forwardUnchangedResult : Obligations.ForwardUnchangedResult := by
  unfold Obligations.ForwardUnchangedResult
  exact fun s e rest kind hc he _ h => exec_forwardUnchanged_of_row hc he (rowOf_eq_forwardUnchanged h)

/-! ### Transmission (R134, R135) -/

theorem exec_transmitterTake_of_head {s : State} {content : List Byte} {rest : List (List Byte)}
    (hidle : s.sending = none) (hq : s.transmitQueue = content :: rest) :
    exec .transmitterTake s =
      .next { s with sending := some (withCheckCode content), transmitQueue := rest } := by
  simp [exec, execTransmitterTake, hidle, hq]

theorem exec_transmitterTake_of_busy {s : State} (h : s.sending ≠ none ∨ s.transmitQueue = []) :
    exec .transmitterTake s = .next s := by
  cases hsending : s.sending with
  | some b => simp [exec, execTransmitterTake, hsending]
  | none =>
    have hempty : s.transmitQueue = [] := h.resolve_left (not_not_intro hsending)
    simp [exec, execTransmitterTake, hsending, hempty]

/-- Settles O12: by what is being sent and by the head of the Transmit Queue. -/
theorem transmitterResult : Obligations.TransmitterResult := by
  unfold Obligations.TransmitterResult
  exact ⟨fun s content rest => exec_transmitterTake_of_head, fun s => exec_transmitterTake_of_busy, fun s => rfl⟩

/-! ### What is sent is received as sent (R126 to R130, R134, R135) -/

theorem highByte_wordOf (hi lo : Byte) : highByte (wordOf hi lo) = hi := BitVec.extractLsb'_append_eq_left

theorem lowByte_wordOf (hi lo : Byte) : lowByte (wordOf hi lo) = lo := BitVec.setWidth_append_eq_right

theorem wordOf_highByte_lowByte (w : Word) : wordOf (highByte w) (lowByte w) = w := by
  have hlow : lowByte w = w.extractLsb' 0 8 := BitVec.setWidth_eq_extractLsb' (by decide)
  rw [hlow]
  exact BitVec.extractLsb'_append_extractLsb' (w := 8) (len := 8)

/-- Bytes with a place for the check code are a content and that place. -/
theorem exists_eq_append_pair {bytes : List Byte} (h : 2 ≤ bytes.length) :
    ∃ content hi lo, bytes = content ++ [hi, lo] := by
  obtain ⟨hi, lo, hlast⟩ : ∃ hi lo, bytes.drop (bytes.length - 2) = [hi, lo] :=
    List.length_eq_two.1 (by rw [List.length_drop]; omega)
  exact ⟨bytes.take (bytes.length - 2), hi, lo, by rw [← hlast, List.take_append_drop]⟩

theorem contentOf_append_pair (content : List Byte) (hi lo : Byte) : contentOf (content ++ [hi, lo]) = content := by
  simp [contentOf]

theorem receivedCheck_append_pair (content : List Byte) (hi lo : Byte) :
    receivedCheck (content ++ [hi, lo]) = wordOf hi lo := by
  simp [receivedCheck]

/-- The transmitter computes the check code that a COMPLETE entry was received with (R129, R135). -/
theorem withCheckCode_contentOf {e : RxEntry} (h : e.idleTag = .complete) :
    withCheckCode (contentOf e.bytes) = e.bytes := by
  obtain ⟨-, hlong, -, hcheck⟩ := e.not_wrong_iff.1 (not_wrong_of_idleTag h)
  obtain ⟨content, hi, lo, hbytes⟩ := exists_eq_append_pair (bytes := e.bytes) (by omega)
  rw [hbytes, receivedCheck_append_pair, contentOf_append_pair] at hcheck
  rw [hbytes, contentOf_append_pair, withCheckCode, ← hcheck, highByte_wordOf, lowByte_wordOf]

theorem withCheckCode_length (content : List Byte) : (withCheckCode content).length = content.length + 2 := by
  simp [withCheckCode]

/-- The bytes before the check code are those of the content (R134). -/
theorem withCheckCode_getD {content : List Byte} {i : Nat} (h : i < content.length) :
    (withCheckCode content).getD i 0 = content.getD i 0 :=
  List.getD_append _ _ _ _ h

/-- Idle finds nothing wrong with what the transmitter sends (R128, R134). -/
theorem idleTag_withCheckCode {content : List Byte} (status : EntryStatus) (hfits : contentFits content)
    (hlength : (content.getD 1 0).getLsbD 0 = false → content.length = 4 + (content.getD 3 0).toNat) :
    RxEntry.idleTag { bytes := withCheckCode content, framingFailed := false, status := status } = .complete := by
  obtain ⟨hshort, -⟩ := hfits
  refine idleTag_of_not_wrong ((RxEntry.not_wrong_iff _).2 ⟨rfl, ?long, fun hclear => ?length, ?check⟩)
  case long =>
    rw [withCheckCode_length]
    omega
  case length =>
    rw [withCheckCode_getD (by omega)] at hclear
    rw [withCheckCode_length, withCheckCode_getD (by omega), hlength hclear]
    omega
  case check => rw [withCheckCode, receivedCheck_append_pair, contentOf_append_pair, wordOf_highByte_lowByte]

theorem runAll_cons {c : Instr} {s t : State} (h : exec c s = .next t) (rest : List Instr) :
    runAll (c :: rest) s = runAll rest t := by
  simp [runAll, h]

/-- The characters of `bytes`, one by one, are appended to the entry in flight while it has room for them (R126). -/
theorem runAll_characters {s : State} {front : List RxEntry} {e : RxEntry} (bytes : List Byte) (rest : List Instr)
    (hr : s.receiver = .receiving) (hq : s.receiveQueue = front ++ [e]) (hs : e.status = .inFlight)
    (hroom : e.bytes.length + bytes.length ≤ 80) :
    runAll ((bytes.map fun b => Instr.characterCompletion b true) ++ rest) s =
      runAll rest { s with receiveQueue := front ++ [{ e with bytes := e.bytes ++ bytes }] } := by
  induction bytes generalizing s e with
  | nil => simp [← hq]
  | cons b bytes ih =>
    rw [List.length_cons] at hroom
    have hstored : e.store b true = { e with bytes := e.bytes ++ [b] } := by
      rw [e.store_of_free hs (by omega)]
      simp
    rw [List.map_cons, List.cons_append, runAll_cons (exec_character_of_inFlight b true hr hq hs), hstored,
      ih (s := { s with receiveQueue := front ++ [{ e with bytes := e.bytes ++ [b] }] }) hr rfl hs (by simp; omega)]
    simp

/-- Settles O13: the check code is a function of the content, so a COMPLETE entry is sent again with its bytes; and the
run of a frame sent is its start, its characters and idle, which finds nothing wrong. -/
theorem sentFrameIsReceivedComplete : Obligations.SentFrameIsReceivedComplete := by
  unfold Obligations.SentFrameIsReceivedComplete
  refine ⟨fun e => withCheckCode_contentOf, fun s content hready hfree hfits hlength => ?_⟩
  obtain ⟨hshort, hlong⟩ := id hfits
  have hroom : RxEntry.reserved.bytes.length + (withCheckCode content).length ≤ 80 := by
    rw [withCheckCode_length]
    exact (Nat.zero_add _).trans_le (Nat.add_le_add_right hlong 2)
  have hend := exec_frameCompletion_of_inFlight
    (s := { s with
      receiver := .receiving
      receiveQueue := s.receiveQueue ++ [{ RxEntry.reserved with bytes := withCheckCode content }] })
    rfl rfl rfl (by simp [withCheckCode_length])
  rw [List.cons_append, runAll_cons (exec_frameStart_of_free hready hfree),
    runAll_characters (s := { s with receiver := .receiving, receiveQueue := _ }) _ _ rfl rfl rfl hroom]
  simp only [RxEntry.reserved, List.nil_append] at hend ⊢
  rw [runAll_cons hend, idleTag_withCheckCode _ hfits hlength, RxEntry.finish, withCheckCode_getD (by omega), ← hready]
  rfl

end Sys2Proof.Machine

/-! Requests addressed to this station and the frames that are no request of it (9.1, 9.2): what the checks ask, the
reply, the refusals, and MANAGE_ADDRESSING (R141 to R149). -/

namespace Sys2Proof.Machine

/-! ### What the checks ask (R144 to R148) -/

theorem manageAdmitted_iff (s : State) (source : Nat) : s.manageAdmitted source = true ↔
    s.services.map = .empty ∨ ∃ a, s.tables.map[source]? = some a ∧ a.manage = true := by
  cases h : s.tables.map[source]? <;> simp [State.manageAdmitted, h]

/-- While the map is EMPTY every source has ceiling 0. -/
theorem effectiveLevel_of_empty {s : State} (h : s.services.map = .empty) (r : Request) :
    s.effectiveLevel r = r.level := by
  simp [State.effectiveLevel, State.sourceCeiling, h]

theorem effectiveLevel_of_entry {s : State} {r : Request} {a : AdmissionEntry} (h : s.services.map ≠ .empty)
    (ha : s.tables.map[r.source]? = some a) : s.effectiveLevel r = max r.level a.ceiling.toNat := by
  simp [State.effectiveLevel, State.sourceCeiling, h, ha]

theorem wellFormedRequest_iff (k : RequestKind) (r : Request) : wellFormedRequest k r = true ↔
    r.level ≤ 3 ∧ r.count ≤ 32 ∧
      (k = .read → r.bodyLength = 9 ∧ (r.readMode = 0 ∨ r.readMode = 1)) ∧
      (k = .write → r.bodyLength = 9 + 2 * r.count) ∧
      (k = .acknowledge ∨ k = .rearmChannel → r.count = 1 ∧ r.bodyLength = 11) ∧
      (k = .exercise → r.count = 2 ∧ r.bodyLength = 13) ∧
      (k = .arm ∨ k = .disarm ∨ k = .loopClear → r.count = 0 ∧ r.bodyLength = 9) := by
  cases k <;> simp [wellFormedRequest, countAgrees, readModeValid, and_assoc]

theorem requiredLevel_eq_ite (k : RequestKind) : requiredLevel k =
    if k = .read then 3 else if k = .acknowledge then 2 else if k = .exercise then 0 else 1 := by
  cases k <;> rfl

theorem modeAllows_iff (k : RequestKind) (m : Mode) : modeAllows k m = true ↔
    (k = .write ∨ k = .arm ∨ k = .exercise → m = .pass) := by
  cases k <;> simp [modeAllows]

theorem ofCode_attention_isSome_iff (n : Nat) : (AttentionKind.ofCode n).isSome = true ↔ 1 ≤ n ∧ n ≤ 11 := by
  fun_cases AttentionKind.ofCode n
  case case12 =>
    simp only [imp_false, Option.isSome_none, Bool.false_eq_true, false_iff] at *
    omega
  all_goals simp

theorem chanOfNumber_isSome_iff (n : Nat) : (chanOfNumber n).isSome = true ↔ n ≤ 4 := by
  fun_cases chanOfNumber n
  case case6 =>
    simp only [imp_false, Option.isSome_none, Bool.false_eq_true, false_iff] at *
    omega
  all_goals simp

/-! ### Pages by their numbers (R148) -/

/-- The length in the page map of the page with a number (R148). -/
def pageSize (n : Nat) : Nat :=
  if n = 0 then 16 else if n = 1 then 18 else if n = 2 then 16 else if n ≤ 4 then 8
  else if n ≤ 11 then 25 else if n = 12 then 24 else if n = 13 then 30 else 34

theorem Page.length_of_ofNumber {n : Nat} {p : Page} (h : Page.ofNumber n = some p) : p.length = pageSize n := by
  revert h
  fun_cases Page.ofNumber n
  case case13 => exact fun h => nomatch h
  all_goals
    rintro ⟨⟩
    rfl

/-- The pages that a WRITE can name are the tables (R148). -/
theorem writeTable_eq_some_iff (n : Nat) (name : TableName) :
    writeTable n = some name ↔ Page.ofNumber n = some (.table name) := by
  unfold writeTable
  cases Page.ofNumber n with
  | none => simp
  | some p => cases p <;> simp

theorem writeTable_isSome_iff (n : Nat) :
    (writeTable n).isSome = true ↔ (1 ≤ n ∧ n ≤ 4) ∨ (8 ≤ n ∧ n ≤ 11) := by
  unfold writeTable
  fun_cases Page.ofNumber n
  case case13 =>
    simp only [imp_false, Option.isSome_none, Bool.false_eq_true, false_iff] at *
    omega
  all_goals simp

theorem operandFailure_read_eq (r : Request) : operandFailure .read r =
    if ¬(r.page ≤ 4 ∨ (8 ≤ r.page ∧ r.page ≤ 14)) then some .badPage
    else if pageSize r.page < (if r.readMode = 0 then r.offset + r.count else r.offset) then some .badRange
    else none := by
  have hnone := Page.ofNumber_eq_none_iff r.page
  show readFailure r = _
  unfold readFailure
  cases hp : Page.ofNumber r.page with
  | none =>
    have hgap := hnone.1 hp
    rw [if_pos (by omega)]
  | some p =>
    have hgap : ¬((5 ≤ r.page ∧ r.page ≤ 7) ∨ 15 ≤ r.page) := by simp [← hnone, hp]
    rw [if_neg (by omega), ← Page.length_of_ofNumber hp]
    by_cases hmode : r.readMode = 0
    · simp only [if_pos hmode]
    · simp only [if_neg hmode]

theorem operandFailure_write_eq (r : Request) : operandFailure .write r =
    if ¬((1 ≤ r.page ∧ r.page ≤ 4) ∨ (8 ≤ r.page ∧ r.page ≤ 11)) then some .badPage
    else if pageSize r.page < r.offset + r.count then some .badRange else none := by
  show writeFailure r = _
  simp only [← writeTable_isSome_iff, writeFailure]
  cases hname : writeTable r.page with
  | none => rfl
  | some name => simp [Page.length_of_ofNumber ((writeTable_eq_some_iff r.page name).1 hname)]

theorem operandFailure_acknowledge_eq (r : Request) : operandFailure .acknowledge r =
    if 1 ≤ r.operand 0 ∧ r.operand 0 ≤ 11 then none else some .badRange := by
  simp only [operandFailure, ofCode_attention_isSome_iff]

theorem operandFailure_rearmChannel_eq (r : Request) : operandFailure .rearmChannel r =
    if r.operand 0 ≤ 4 then none else some .badRange := by
  simp only [operandFailure, chanOfNumber_isSome_iff]

theorem operandFailure_exercise_eq (r : Request) : operandFailure .exercise r =
    if r.operand 0 ≤ 4 ∧ 1 ≤ r.operand 1 ∧ r.operand 1 ≤ 200 then none else some .badRange := by
  simp only [operandFailure, Bool.and_eq_true, chanOfNumber_isSome_iff, inRange_iff]

/-! ### The reply (R149, R182) -/

theorem reply_content_eq (f : Frame) (station : Nat) (tag : Byte) (reply : Reply) :
    (f.reply station tag reply).content =
      [4, f.flags, f.source, BitVec.ofNat 8 (6 + 2 * reply.words.length), tag, BitVec.ofNat 8 reply.status.code,
        highByte (numberWord reply.detail), lowByte (numberWord reply.detail), BitVec.ofNat 8 station,
        BitVec.ofNat 8 reply.words.length] ++ bytesOfWords reply.words := by
  rw [← Reply.body_length reply station tag]
  rfl

/-- Settles O23: each check by its lemma above, the reply by its bytes. -/
theorem requestChecks : Obligations.RequestChecks := by
  unfold Obligations.RequestChecks
  exact ⟨manageAdmitted_iff, fun s r h => effectiveLevel_of_empty h r, fun s r a => effectiveLevel_of_entry,
    wellFormedRequest_iff, requiredLevel_eq_ite, modeAllows_iff,
    fun r => ⟨operandFailure_read_eq r, operandFailure_write_eq r, operandFailure_acknowledge_eq r,
      operandFailure_rearmChannel_eq r, operandFailure_exercise_eq r, rfl, rfl, rfl⟩,
    reply_content_eq, rfl⟩

/-! ### Requests that a check refuses (R143, R144, R148) -/

/-- A request addressed to this station, judged: its reply goes out in its place, whatever its kind (R149). -/
theorem request_of_judged {s t : State} {k : RequestKind} {e : RxEntry} {rest : List RxEntry} {r : Request}
    {reply : Reply} {perform : State → Request → State × Reply} (h : s.Carries e rest r) (ht : r.target = s.station)
    (hk : r.kindCode = k.code) (hjudged : s.judgeRequest k perform r = (t, reply))
    (hqueue : t.receiveQueue = s.receiveQueue) (hstation : t.station = s.station) :
    s.request k perform = t.replyWith e rest r reply := by
  have hrow := rowOf_request h ht hk
  obtain ⟨hdispatches, -, -, rfl⟩ := h
  have hanswer : s.answer k perform (frameOf e) =
      (t, ((frameOf e).reply t.station (Request.ofFrame (frameOf e)).tag reply).content) := by
    rw [State.answer, hjudged, hstation]
  rw [State.request, take_of_dispatches hdispatches hrow (by rw [hanswer, hqueue]), hanswer]
  rfl

/-- The LOOP CLEAR addressed to this station is a request as those of the other kinds are (R158). -/
theorem exec_loopClear_addressed {s : State} {e : RxEntry} {rest : List RxEntry} {r : Request}
    (h : s.Carries e rest r) (ht : r.target = s.station) (hk : r.kindCode = 8) :
    exec .loopClear s = .next (s.request .loopClear State.performLoopClear) := by
  have hrow := rowOf_request (k := .loopClear) h ht hk
  obtain ⟨hdispatches, -, -, rfl⟩ := h
  have hhandled : s.handleLoopClear (frameOf e) = s.answer .loopClear State.performLoopClear (frameOf e) := if_pos ht
  obtain ⟨-, hstatus, -, -, hsource⟩ := id hdispatches
  obtain ⟨hqueue, -⟩ := (handleLoopClear_handles hstatus hsource).changes.queues
  rw [exec_loopClear hdispatches hrow, hhandled, State.request,
    take_of_dispatches hdispatches hrow (hhandled ▸ hqueue)]

/-- What is judged alike whatever the performance would be is the answer to a request of any kind. -/
theorem exec_command_of_judged {s t : State} {k : RequestKind} {e : RxEntry} {rest : List RxEntry} {r : Request}
    {reply : Reply} (h : s.Carries e rest r) (ht : r.target = s.station) (hk : r.kindCode = k.code)
    (hjudged : ∀ perform, s.judgeRequest k perform r = (t, reply)) (hqueue : t.receiveQueue = s.receiveQueue)
    (hstation : t.station = s.station) : exec k.command s = .next (t.replyWith e rest r reply) := by
  have hrequest (perform) : s.request k perform = t.replyWith e rest r reply :=
    request_of_judged h ht hk (hjudged perform) hqueue hstation
  cases k with
  | loopClear => exact (exec_loopClear_addressed h ht hk).trans (congrArg Host.Outcome.next (hrequest _))
  | _ => exact congrArg Host.Outcome.next (hrequest _)

theorem writeFailure_ne_refusedSource (r : Request) : writeFailure r ≠ some .refusedSource := by
  unfold writeFailure
  split
  · decide
  · split <;> simp

theorem readFailure_ne_refusedSource (r : Request) : readFailure r ≠ some .refusedSource := by
  unfold readFailure
  split
  · decide
  · split <;> split <;> simp

/-- REFUSED_SOURCE is never the status of check 5, so check 5 raises nothing (R144). -/
theorem operandFailure_ne_refusedSource (k : RequestKind) (r : Request) :
    operandFailure k r ≠ some .refusedSource := by
  cases k with
  | read => exact readFailure_ne_refusedSource r
  | write => exact writeFailure_ne_refusedSource r
  | acknowledge => rw [operandFailure_acknowledge_eq]; split <;> simp
  | rearmChannel => rw [operandFailure_rearmChannel_eq]; split <;> simp
  | exercise => rw [operandFailure_exercise_eq]; split <;> simp
  | _ => simp [operandFailure]

/-- A failure of one of checks 2 to 5 is answered with its status and changes nothing (R143). -/
theorem exec_command_of_failure {s : State} {k : RequestKind} {e : RxEntry} {rest : List RxEntry} {r : Request}
    {status : Status} (h : s.Carries e rest r) (ht : r.target = s.station) (hk : r.kindCode = k.code)
    (hfail : s.checkFailure k r = some status) (hne : status ≠ .refusedSource) :
    exec k.command s = .next (s.replyWith e rest r (Reply.plain status)) :=
  exec_command_of_judged h ht hk (fun _ => judgeRequest_of_failure hfail hne) rfl rfl

theorem checkFailure_of_mode {s : State} {k : RequestKind} {r : Request} (hadmitted : s.manageAdmitted r.source = true)
    (hformed : wellFormedRequest k r = true) (hlevel : s.effectiveLevel r ≤ requiredLevel k)
    (h : modeAllows k s.mode = false) : s.checkFailure k r = some .refusedMode := by
  simp [State.checkFailure, hadmitted, hformed, Nat.not_lt.2 hlevel, h]

/-- Settles O24: the first check that fails decides the judgement of a request of any kind. -/
theorem refusedRequestChangesNothing : Obligations.RefusedRequestChangesNothing := by
  unfold Obligations.RefusedRequestChangesNothing
  intro k s e rest r h ht hk
  refine ⟨fun hrefused => ?source, fun hadmitted hformed => ?form, fun hadmitted hformed hlevel => ?level,
    fun hadmitted hformed hlevel hmode => ?mode, fun hpasses status hstatus => ?operands⟩
  case source =>
    exact exec_command_of_judged h ht hk
      (fun _ => judgeRequest_of_refusedSource (checkFailure_of_not_admitted hrefused k)) rfl rfl
  case form => exact exec_command_of_failure h ht hk (checkFailure_of_not_wellFormed hadmitted hformed) (by decide)
  case level => exact exec_command_of_failure h ht hk (checkFailure_of_level hadmitted hformed hlevel) (by decide)
  case mode => exact exec_command_of_failure h ht hk (checkFailure_of_mode hadmitted hformed hlevel hmode) (by decide)
  case operands =>
    obtain ⟨-, -, -, hadmitted, hformed, hlevel, hmode⟩ := hpasses
    refine exec_command_of_failure h ht hk ((checkFailure_of_passed hadmitted hformed hlevel hmode).trans hstatus) ?_
    rintro rfl
    exact operandFailure_ne_refusedSource k r hstatus

/-! ### MANAGE frames that are no request of this station (R141, R142) -/

theorem ofCode_request_eq_none {n : Nat} (h : n = 0 ∨ 8 < n) : RequestKind.ofCode n = none := by
  fun_cases RequestKind.ofCode n
  case case9 => rfl
  all_goals omega

/-- Another target, and no broadcast LOOP CLEAR: the frame is for MANAGE_ADDRESSING whatever its length. -/
theorem manageRow_of_other {station : Nat} {f : Frame} (h : f.bodyByte 0 ≠ station)
    (hnot : ¬(f.bodyByte 0 = 15 ∧ f.bodyByte 2 = 8)) : manageRow station f = .manageAddressing := by
  have hbroadcast : ¬(decide (f.bodyByte 0 = 15) && decide (f.bodyByte 2 = 8)) = true := by simpa using hnot
  rw [manageRow, if_neg h, if_neg hbroadcast, ite_self]

theorem manageRow_of_unknown {station : Nat} {f : Frame} (h : f.bodyByte 0 = station)
    (hkind : f.bodyByte 2 = 0 ∨ 8 < f.bodyByte 2) : manageRow station f = .manageAddressing := by
  rw [manageRow, if_pos h, ofCode_request_eq_none hkind, ite_self]

theorem address_of_short {s : State} {f : Frame} (h : f.body.length < 9) :
    s.address f = (s.raise .frameDamaged 1, f.markDamaged.content) := if_pos h

theorem address_of_other {s : State} {f : Frame} (h : 9 ≤ f.body.length)
    (hother : (Request.ofFrame f).target ≠ s.station) : s.address f = (s, f.content) := by
  rw [State.address, if_neg (Nat.not_lt.2 h), if_neg hother]

/-- The frame addressed to this station is answered by check 1, then by check 2 (R143 to R145; log 19). -/
theorem address_of_target {s : State} {f : Frame} (h : 9 ≤ f.body.length)
    (ht : (Request.ofFrame f).target = s.station) : s.address f =
      if s.manageAdmitted (Request.ofFrame f).source = true then
        (s, (f.reply s.station (Request.ofFrame f).tag (Reply.plain .badRequest)).content)
      else (s.raise .sourceRefused (Request.ofFrame f).source,
        (f.reply s.station (Request.ofFrame f).tag (Reply.plain .refusedSource)).content) := by
  rw [State.address, if_neg (Nat.not_lt.2 h), if_pos ht]
  cases s.manageAdmitted (Request.ofFrame f).source <;> rfl

/-- The take of a MANAGE frame that is no request of one of the eight kinds to this unit. -/
theorem exec_manageAddressing_of_row {s : State} {e : RxEntry} {rest : List RxEntry} (h : s.Dispatches .manage e rest)
    (hv : stationValid s.station = true) (hrow : manageRow s.station (frameOf e) = .manageAddressing) :
    exec .manageAddressing s = .next ((s.address (frameOf e)).1.passOn rest (s.address (frameOf e)).2) := by
  obtain ⟨-, hstatus, -, -, hsource⟩ := id h
  obtain ⟨hqueue, -⟩ := (address_handles (s := s) hstatus hsource).changes.queues
  exact congrArg Host.Outcome.next (take_of_dispatches h ((rowOf_manage h hv).trans hrow) hqueue)

/-- Settles O22: the frame's row is MANAGE_ADDRESSING in each case, and its handling is the case's own. -/
theorem manageAddressingResult : Obligations.ManageAddressingResult := by
  unfold Obligations.ManageAddressingResult
  intro s e rest hd hv f r content
  obtain ⟨-, -, hlong, -, -⟩ := id hd
  have hcontent := content_length hlong
  refine ⟨fun hshort => ?short, fun hbody hother hnot => ?other, fun hbody htarget hkind => ?unknown⟩
  case short =>
    rw [exec_manageAddressing_of_row hd hv (if_pos hshort), address_of_short hshort,
      ← Frame.markDamaged_content hcontent]
    rfl
  case other =>
    have hsame : (frameOf e).content = contentOf e.bytes := Frame.content_ofContent hcontent
    rw [exec_manageAddressing_of_row hd hv (manageRow_of_other hother hnot), address_of_other hbody hother, hsame]
  case unknown =>
    rw [exec_manageAddressing_of_row hd hv (manageRow_of_unknown htarget hkind), address_of_target hbody htarget]
    split <;> rfl

end Sys2Proof.Machine

/-! READ and WRITE (R150 to R153, R162): the words that a READ returns, and what a WRITE leaves in the tables. -/

namespace Sys2Proof.Machine

/-! ### READ (R150) -/

theorem readWords_of_counted {s : State} {r : Request} {p : Page} (hp : Page.ofNumber r.page = some p)
    (hmode : r.readMode = 0) : s.readWords r = ((s.pageWords p).drop r.offset).take r.count := by
  simp [State.readWords, hp, hmode]

theorem readWords_of_toEnd {s : State} {r : Request} {p : Page} (hp : Page.ofNumber r.page = some p)
    (hmode : r.readMode = 1) : s.readWords r =
      ((s.pageWords p).take (min (r.offset + r.count) (s.currentLength p))).drop r.offset := by
  simp [State.readWords, hp, hmode, List.drop_take]

/-- A READ that passes its checks is answered with its words and changes nothing. -/
theorem exec_read_of_passes {s : State} {e : RxEntry} {rest : List RxEntry} {r : Request}
    (h : s.Passes .read e rest r) (hoperands : operandFailure .read r = none) : exec .read s =
      .next (s.replyWith e rest r { status := .done, detail := 0, words := s.readWords r }) :=
  congrArg Host.Outcome.next (request_of_passes h hoperands rfl rfl rfl)

/-- Settles O25: the range of each read mode passes check 5, and the words are those of the mode. -/
theorem readResult : Obligations.ReadResult := by
  unfold Obligations.ReadResult
  intro s e rest r p hpasses hp
  refine ⟨fun hmode hrange => ?counted, fun hmode hrange => ?toEnd⟩
  case counted =>
    have hoperands : operandFailure .read r = none := by
      simp [operandFailure, readFailure, hp, hmode, hrange]
    rw [exec_read_of_passes hpasses hoperands, readWords_of_counted hp hmode]
  case toEnd =>
    have hoperands : operandFailure .read r = none := by
      simp [operandFailure, readFailure, hp, hmode, hrange]
    rw [exec_read_of_passes hpasses hoperands, readWords_of_toEnd hp hmode]

/-! ### What a table keeps of a word (R4, R153) -/

/-- Bits 0, 1, 4 and 5 of a number, with their weights. -/
theorem nat_and_51 (n : Nat) : n &&& 51 = n % 2 + 2 * (n / 2 % 2) + 16 * (n / 16 % 4) := by
  have hlow : ∀ m < 64, m &&& 51 = m % 2 + 2 * (m / 2 % 2) + 16 * (m / 16 % 4) := by decide
  have hmask : n &&& 51 = n % 64 &&& 51 := by
    rw [show n % 64 = n &&& 63 from (Nat.and_two_pow_sub_one_eq_mod n 6).symm, Nat.and_assoc]
    rfl
  rw [hmask, hlow _ (Nat.mod_lt n (by decide))]
  omega

theorem flagBit_getLsbD (w : Word) (n : Nat) : flagBit (w.getLsbD n) n = 2 ^ n * (w.toNat / 2 ^ n % 2) := by
  rw [← Nat.toNat_testBit]
  show flagBit (w.toNat.testBit n) n = _
  cases w.toNat.testBit n <;> simp [flagBit]

theorem AdmissionEntry.word_ofWord (w : Word) : (AdmissionEntry.ofWord w).word = w &&& 0x0033 := by
  apply BitVec.eq_of_toNat_eq
  simp only [AdmissionEntry.word, AdmissionEntry.ofWord, flagBit_getLsbD, numberWord, BitVec.toNat_ofNat,
    BitVec.toNat_and, BitVec.extractLsb'_toNat, Nat.shiftRight_eq_div_pow]
  show _ = w.toNat &&& 51
  rw [nat_and_51]
  omega

theorem LoadEntry.word_ofWord (w : Word) : (LoadEntry.ofWord w).word = w &&& 0x3FFF := by
  apply BitVec.eq_of_toNat_eq
  have hmask : w.toNat &&& 0x3FFF = w.toNat % 2 ^ 14 := Nat.and_two_pow_sub_one_eq_mod _ 14
  simp only [LoadEntry.word, LoadEntry.ofWord, numberWord, BitVec.toNat_ofNat, BitVec.toNat_and,
    BitVec.extractLsb'_toNat, Nat.shiftRight_eq_div_pow]
  show _ = w.toNat &&& 0x3FFF
  rw [hmask]
  omega

/-! ### Words stored (R151, R152) -/

theorem words_length (t : Tables) (name : TableName) : (t.words name).length = (Page.table name).length := by
  cases name <;> simp [Tables.words, Page.length]

/-- A word stored stands at its offset in what its table keeps; no other word of the table changes. -/
theorem words_store_self (t : Tables) (name : TableName) (offset : Nat) (w : Word) :
    (t.store name offset w).words name = (t.words name).set offset (keptWord name w) := by
  cases name with
  | map => simp [Tables.store, Tables.words, keptWord, AdmissionEntry.word_ofWord]
  | load => simp [Tables.store, Tables.words, keptWord, LoadEntry.word_ofWord]
  | _ => simp [Tables.store, Tables.words, keptWord]

theorem words_store_of_ne (t : Tables) {name other : TableName} (h : other ≠ name) (offset : Nat) (w : Word) :
    (t.store name offset w).words other = t.words other := by
  cases name with
  | curve c =>
    cases other with
    | curve d =>
      have hne : c.val ≠ d.val := fun hv => h (congrArg TableName.curve (Fin.ext hv.symm))
      simp [Tables.store, Tables.words, hne]
    | _ => rfl
  | _ => cases other <;> simp_all [Tables.store, Tables.words]

/-- One data word of a WRITE: a protected word is left as it is at a level other than 0 (R152). -/
def Tables.storeAllowed (t : Tables) (name : TableName) (level offset : Nat) (w : Word) : Tables :=
  if level ≠ 0 && protectedWord name offset then t else t.store name offset w

theorem storeAll_cons (name : TableName) (level : Nat) (w : Word) (ws : List Word) (offset : Nat) (t : Tables) :
    Tables.storeAll name level (w :: ws) offset t =
      Tables.storeAll name level ws (offset + 1) (t.storeAllowed name level offset w) := rfl

theorem words_storeAllowed_at (t : Tables) (name : TableName) (level : Nat) (w : Word) {i : Nat}
    (hi : i < (Page.table name).length) : ((t.storeAllowed name level i w).words name)[i]? =
      if level ≠ 0 ∧ protectedWord name i = true then (t.words name)[i]? else some (keptWord name w) := by
  have hlength := words_length t name
  unfold Tables.storeAllowed
  by_cases hguard : level ≠ 0 ∧ protectedWord name i = true
  · rw [if_pos hguard, if_pos (by simpa using hguard)]
  · rw [if_neg hguard, if_neg (by simpa using hguard), words_store_self, List.getElem?_set_self (by omega)]

theorem words_storeAllowed_off (t : Tables) (name : TableName) (level : Nat) (w : Word) {offset i : Nat}
    (h : offset ≠ i) : ((t.storeAllowed name level offset w).words name)[i]? = (t.words name)[i]? := by
  unfold Tables.storeAllowed
  split
  · rfl
  · rw [words_store_self, List.getElem?_set_ne h]

theorem words_storeAllowed_of_ne (t : Tables) {name other : TableName} (h : other ≠ name) (level offset : Nat)
    (w : Word) : (t.storeAllowed name level offset w).words other = t.words other := by
  unfold Tables.storeAllowed
  split
  · rfl
  · exact words_store_of_ne t h offset w

theorem words_storeAll_of_ne {name other : TableName} (h : other ≠ name) (level : Nat) (ws : List Word) (offset : Nat)
    (t : Tables) : (Tables.storeAll name level ws offset t).words other = t.words other := by
  induction ws generalizing offset t with
  | nil => rfl
  | cons w ws ih => rw [storeAll_cons, ih, words_storeAllowed_of_ne t h]

/-- The words of the table before the offset of a WRITE stay. -/
theorem words_storeAll_below (name : TableName) (level : Nat) (ws : List Word) {offset i : Nat} (h : i < offset)
    (t : Tables) : ((Tables.storeAll name level ws offset t).words name)[i]? = (t.words name)[i]? := by
  induction ws generalizing offset t with
  | nil => rfl
  | cons w ws ih => rw [storeAll_cons, ih (by omega), words_storeAllowed_off t name level w (by omega)]

/-- Data word `k` of a WRITE goes to offset + `k` of its table, unless that word is protected from it (R151, R152). -/
theorem words_storeAll_self (name : TableName) (level : Nat) (ws : List Word) (offset : Nat) (t : Tables) {i : Nat}
    (hi : i < (Page.table name).length) : ((Tables.storeAll name level ws offset t).words name)[i]? =
      if offset ≤ i ∧ i < offset + ws.length ∧ ¬(level ≠ 0 ∧ protectedWord name i = true) then
        some (keptWord name (ws.getD (i - offset) 0))
      else (t.words name)[i]? := by
  induction ws generalizing offset t with
  | nil => exact (if_neg (by simp; omega)).symm
  | cons w ws ih =>
    rw [storeAll_cons]
    rcases Nat.lt_trichotomy i offset with hlt | rfl | hgt
    · rw [words_storeAll_below name level ws (by omega), words_storeAllowed_off t name level w (by omega),
        if_neg (by omega)]
    · rw [words_storeAll_below name level ws (by omega), words_storeAllowed_at t name level w hi]
      by_cases hguard : level ≠ 0 ∧ protectedWord name i = true <;> simp [hguard]
    · rw [ih, words_storeAllowed_off t name level w (by omega), List.length_cons,
        show i - offset = i - (offset + 1) + 1 by omega, List.getD_cons_succ]
      have hrange : (offset + 1 ≤ i ∧ i < offset + 1 + ws.length) ↔ (offset ≤ i ∧ i < offset + (ws.length + 1)) := by
        omega
      simp only [← and_assoc, hrange]

/-! ### The reply and the service state of a WRITE (R151, R152) -/

theorem protectedCarried_eq (name : TableName) (n offset : Nat) : protectedCarried name n offset =
    ((List.range n).filter fun k => protectedWord name (offset + k)).length := by
  induction n generalizing offset with
  | zero => rfl
  | succ n ih =>
    have hshift : (fun k => protectedWord name (offset + k)) ∘ Nat.succ =
        fun k => protectedWord name (offset + 1 + k) := by
      funext k
      rw [Function.comp_apply, Nat.succ_eq_add_one, Nat.add_comm k 1, Nat.add_assoc]
    rw [protectedCarried, ih, List.range_succ_eq_map, List.filter_cons, List.filter_map, hshift, Nat.add_zero]
    cases protectedWord name offset with
    | false => simp
    | true => simp [Nat.add_comm]

theorem writeReply_eq (name : TableName) (level : Nat) (r : Request) : writeReply name level r =
    (let carried := ((List.range r.count).filter fun k => protectedWord name (r.offset + k)).length
     if level ≠ 0 ∧ 0 < carried then { status := .partialWrite, detail := carried, words := [] }
     else Reply.plain .done) := by
  simp only [writeReply, protectedCarried_eq, Bool.and_eq_true, decide_eq_true_iff]

theorem protectedWord_iff (name : TableName) (i : Nat) : protectedWord name i = true ↔ IsProtected name i := by
  cases name <;> simp [protectedWord, IsProtected, or_assoc]

theorem wordsOfBytes_length : ∀ l : List Byte, (wordsOfBytes l).length = l.length / 2
  | [] => rfl
  | [_] => by simp [wordsOfBytes]
  | hi :: lo :: rest => by
    have ih := wordsOfBytes_length rest
    simp only [wordsOfBytes, List.length_cons, ih]
    omega

/-- A well-formed WRITE carries as many data words as its count says (R145). -/
theorem data_length_of_wellFormed {f : Frame} (h : wellFormedRequest .write (Request.ofFrame f) = true) :
    (Request.ofFrame f).data.length = (Request.ofFrame f).count := by
  obtain ⟨-, -, -, hwrite, -⟩ := (wellFormedRequest_iff _ _).1 h
  have hbody : f.body.length = 9 + 2 * (Request.ofFrame f).count := hwrite rfl
  show (wordsOfBytes (f.body.drop 9)).length = _
  rw [wordsOfBytes_length, List.length_drop]
  omega

theorem performWrite_of_level {s : State} {r : Request} {name : TableName} (hname : writeTable r.page = some name)
    (h : name ≠ .map ∨ s.effectiveLevel r = 0) :
    s.performWrite r = (s.storeWords name r, writeReply name (s.effectiveLevel r) r) := by
  have hallowed : ¬(decide (name = .map) && decide (s.effectiveLevel r ≠ 0)) = true := by
    rcases h with h | h <;> simp [h]
  simp only [State.performWrite, hname, if_neg hallowed]

/-- Page 2 is written at level 0 alone (R153). -/
theorem performWrite_of_map {s : State} {r : Request} (hname : writeTable r.page = some .map)
    (h : s.effectiveLevel r ≠ 0) : s.performWrite r = (s, Reply.plain .refusedAuthority) := by
  simp [State.performWrite, hname, h]

/-- Settles O27: the tables are those that the stores leave, word by word by the lemmas above. -/
theorem writeResult : Obligations.WriteResult := by
  unfold Obligations.WriteResult
  intro s e rest r name hpasses hpage hrange
  have hname := (writeTable_eq_some_iff r.page name).2 hpage
  have hoperands : operandFailure .write r = none := by
    simp [operandFailure, writeFailure, hname, hrange]
  refine ⟨fun hmap hlevel => ?refused, fun hlevel => ?stored, protectedWord_iff name⟩
  case refused =>
    subst hmap
    exact congrArg Host.Outcome.next
      (request_of_passes hpasses hoperands (performWrite_of_map hname hlevel) rfl rfl)
  case stored =>
    have hcount : r.data.length = r.count := by
      obtain ⟨⟨-, -, -, rfl⟩, -, -, -, hformed, -⟩ := hpasses
      exact data_length_of_wellFormed hformed
    refine ⟨Tables.storeAll name (s.effectiveLevel r) r.data r.offset s.tables, ?_,
      fun other hother => words_storeAll_of_ne hother _ _ _ _, fun i hi => ?_⟩
    · rw [← writeReply_eq]
      exact congrArg Host.Outcome.next
        (request_of_passes hpasses hoperands (performWrite_of_level hname hlevel) rfl rfl)
    · rw [words_storeAll_self name _ _ _ _ hi, hcount]

end Sys2Proof.Machine

/-! ACKNOWLEDGE, REARM CHANNEL and EXERCISE (R155 to R157), with the pending causes of the attention kinds (R177). -/

namespace Sys2Proof.Machine

/-! ### ACKNOWLEDGE (R155, R177) -/

theorem entryOf_isSome_iff (k : AttentionKind) (l : List AttentionEntry) :
    (entryOf k l).isSome = true ↔ ∃ entry ∈ l, entry.kind = k := by
  simp [entryOf]

theorem acknowledgeKind_of_cause {s : State} {k : AttentionKind} (h : ∃ entry ∈ s.attention, entry.kind = k)
    (hcause : s.causeHolds k = true) : s.acknowledgeKind k = (s, Reply.plain .stillPresent) := by
  rw [State.acknowledgeKind, (entryOf_isSome_iff k _).2 h, hcause]
  rfl

theorem acknowledgeKind_of_no_cause {s : State} {k : AttentionKind} (hcause : s.causeHolds k = false) :
    s.acknowledgeKind k = ({ s with attention := removeKind k s.attention }, Reply.plain .done) := by
  rw [State.acknowledgeKind, hcause, Bool.and_false]
  rfl

theorem removeKind_of_absent {k : AttentionKind} {l : List AttentionEntry} (h : ∀ entry ∈ l, entry.kind ≠ k) :
    removeKind k l = l := List.filter_eq_self.2 fun entry hentry => decide_eq_true (h entry hentry)

/-- Where there is no entry of the kind nothing is removed, whether its cause holds or not. -/
theorem acknowledgeKind_of_absent {s : State} {k : AttentionKind} (h : ∀ entry ∈ s.attention, entry.kind ≠ k) :
    s.acknowledgeKind k = (s, Reply.plain .done) := by
  have hnone : ¬((entryOf k s.attention).isSome && s.causeHolds k) = true := by
    rw [Bool.and_eq_true, entryOf_isSome_iff]
    exact fun ⟨⟨entry, hentry, hkind⟩, _⟩ => h entry hentry hkind
  rw [State.acknowledgeKind, if_neg hnone, removeKind_of_absent h]

/-- An ACKNOWLEDGE of a kind that passes its checks is answered by what becomes of the kind's entry. -/
theorem exec_acknowledge_of_passes {s t : State} {e : RxEntry} {rest : List RxEntry} {r : Request}
    {k : AttentionKind} {reply : Reply} (h : s.Passes .acknowledge e rest r) (hcode : r.operand 0 = k.code)
    (hk : s.acknowledgeKind k = (t, reply)) (hqueue : t.receiveQueue = s.receiveQueue)
    (hstation : t.station = s.station) : exec .acknowledge s = .next (t.replyWith e rest r reply) := by
  have hkind : AttentionKind.ofCode (r.operand 0) = some k := by rw [hcode, AttentionKind.ofCode_code]
  have hperform : s.performAcknowledge r = (t, reply) := by
    rw [State.performAcknowledge, hkind]
    exact hk
  have hoperands : operandFailure .acknowledge r = none := by simp [operandFailure, hkind]
  exact congrArg Host.Outcome.next (request_of_passes h hoperands hperform hqueue hstation)

theorem anyWheelLatch_iff (s : State) :
    s.anyWheelLatch = true ↔ ∃ c, c ≠ .bk ∧ (s.channels.get c).latch = true := by
  rw [← not_iff_not]
  push Not
  rw [forall_chan]
  simp [State.anyWheelLatch, PerChan.get, and_assoc]

theorem anySenseFault_iff (s : State) : s.anySenseFault = true ↔ ∃ w, (s.sense.get w).isFault = true := by
  rw [← not_iff_not, Bool.not_eq_true, anySenseFault_eq_false_iff]
  simp

theorem anySpeedFault_iff (s : State) : (s.wheels.left.speedFault || s.wheels.right.speedFault) = true ↔
    ∃ w, (s.wheels.get w).speedFault = true := by
  rw [← not_iff_not]
  push Not
  rw [forall_wheel]
  simp [PerWheel.get]

/-- Settles O31: the kind's entry decides by its three cases, and each pending cause is what R177 names. -/
theorem acknowledgeResult : Obligations.AcknowledgeResult := by
  unfold Obligations.AcknowledgeResult
  refine ⟨fun s e rest r k h hcode => ⟨fun hentry hcause => ?kept, fun _ hcause => ?removed, fun habsent => ?absent⟩,
    fun s => ⟨Iff.rfl, anyWheelLatch_iff s, anySenseFault_iff s, decide_eq_true_iff, anySpeedFault_iff s, ?none⟩⟩
  case kept => exact exec_acknowledge_of_passes h hcode (acknowledgeKind_of_cause hentry hcause) rfl rfl
  case removed => exact exec_acknowledge_of_passes h hcode (acknowledgeKind_of_no_cause hcause) rfl rfl
  case absent => exact exec_acknowledge_of_passes h hcode (acknowledgeKind_of_absent habsent) rfl rfl
  case none => rintro k (rfl | rfl | rfl | rfl | rfl | rfl) <;> rfl

/-! ### Operands that name a channel (R148) -/

theorem chanOfNumber_chanNumber (c : Chan) : chanOfNumber (chanNumber c) = some c := by cases c <;> rfl

/-! ### REARM CHANNEL (R70, R156) -/

/-- A sound channel whose input is deasserted: with its latch set it is OFF, so clearing the latch turns nothing on. -/
theorem Channel.Sound.clearLatch_eq {c : Channel} {input : Bool} (h : c.Sound input) :
    c.clearLatch = { c with latch := false } := by
  obtain ⟨hout, -, hoff, -⟩ := id h
  have hlevel : { c with latch := false }.level = c.output := by
    cases hl : c.latch with
    | false =>
      rw [hout, ← hl]
      rfl
    | true =>
      rw [h.output_of_latch hl]
      exact Channel.level_off (hoff hl)
  rw [Channel.clearLatch, Channel.drive, hlevel]

theorem exec_rearm_of_passes {s t : State} {e : RxEntry} {rest : List RxEntry} {r : Request} {c : Chan}
    {reply : Reply} (h : s.Passes .rearmChannel e rest r) (hc : r.operand 0 = chanNumber c)
    (hrearm : s.rearm c = (t, reply)) (hqueue : t.receiveQueue = s.receiveQueue)
    (hstation : t.station = s.station) : exec .rearmChannel s = .next (t.replyWith e rest r reply) := by
  have hchan : chanOfNumber (r.operand 0) = some c := by rw [hc, chanOfNumber_chanNumber]
  have hperform : s.performRearm r = (t, reply) := by
    rw [State.performRearm, hchan]
    exact hrearm
  have hoperands : operandFailure .rearmChannel r = none := by simp [operandFailure, hchan]
  exact congrArg Host.Outcome.next (request_of_passes h hoperands hperform hqueue hstation)

/-- Settles O32: the fault input decides, and in a sound channel the latch is all that a clearing changes. -/
theorem rearmResult : Obligations.RearmResult := by
  unfold Obligations.RearmResult
  intro s e rest r c hpasses hvalves hc
  refine ⟨fun hasserted => ?refused, fun hdeasserted => ?cleared⟩
  case refused => exact exec_rearm_of_passes hpasses hc (if_pos hasserted) rfl rfl
  case cleared =>
    have hrearm : s.rearm c =
        ({ s with channels := s.channels.set c (s.channels.get c).clearLatch }, Reply.plain .done) :=
      if_neg (by simp [hdeasserted])
    rw [(hvalves c).clearLatch_eq] at hrearm
    exact exec_rearm_of_passes hpasses hc hrearm rfl rfl

/-! ### EXERCISE (R72, R157) -/

theorem anyPulsing_iff (s : State) :
    (allChannels.any fun d => s.pulsing d) = true ↔ ∃ d, (s.channels.get d).mode = .pulse := by
  constructor
  · intro h
    obtain ⟨d, -, hd⟩ := List.any_eq_true.1 h
    exact ⟨d, of_decide_eq_true hd⟩
  · rintro ⟨d, hd⟩
    by_contra h
    exact pulsing_any_eq_false h d hd

theorem not_anyPulsing {s : State} (h : ∀ d, (s.channels.get d).mode ≠ .pulse) :
    ¬(allChannels.any fun d => s.pulsing d) = true := by
  rw [anyPulsing_iff]
  exact fun ⟨d, hd⟩ => h d hd

/-- With the latch clear the pulse starts with its output on (R57, R72). -/
theorem Channel.startPulse_of_clear {c : Channel} (h : c.latch = false) (length : Nat) : c.startPulse length =
    { mode := .pulse, period := 0, activeRatio := 0, pendingRatio := 0, phase := 0, latch := false
      pulseRemaining := length, output := true, due := .nothing } := by
  simp [Channel.startPulse, Channel.drive, Channel.level, h]

theorem startExercise_of_busy {s : State} (h : ∃ d, (s.channels.get d).mode = .pulse) (c : Chan) (length : Nat) :
    s.startExercise c length = (s, Reply.plain .refusedBusy) := if_pos ((anyPulsing_iff s).2 h)

theorem startExercise_of_latched {s : State} {c : Chan} (h : ∀ d, (s.channels.get d).mode ≠ .pulse)
    (hlatch : (s.channels.get c).latch = true) (length : Nat) :
    s.startExercise c length = (s, Reply.plain .refusedFault) := by
  rw [State.startExercise, if_neg (not_anyPulsing h), if_pos hlatch]

theorem startExercise_of_clear {s : State} {c : Chan} (h : ∀ d, (s.channels.get d).mode ≠ .pulse)
    (hclear : (s.channels.get c).latch = false) (length : Nat) : s.startExercise c length =
      ({ s with channels := s.channels.set c ((s.channels.get c).startPulse length) }, Reply.plain .done) := by
  rw [State.startExercise, if_neg (not_anyPulsing h), if_neg (by simp [hclear])]

theorem exec_exercise_of_passes {s t : State} {e : RxEntry} {rest : List RxEntry} {r : Request} {c : Chan}
    {reply : Reply} (h : s.Passes .exercise e rest r) (hc : r.operand 0 = chanNumber c) (hlow : 1 ≤ r.operand 1)
    (hhigh : r.operand 1 ≤ 200) (hstart : s.startExercise c (r.operand 1) = (t, reply))
    (hqueue : t.receiveQueue = s.receiveQueue) (hstation : t.station = s.station) :
    exec .exercise s = .next (t.replyWith e rest r reply) := by
  have hchan : chanOfNumber (r.operand 0) = some c := by rw [hc, chanOfNumber_chanNumber]
  have hperform : s.performExercise r = (t, reply) := by
    rw [State.performExercise, hchan]
    exact hstart
  have hoperands : operandFailure .exercise r = none := by
    simp [operandFailure, hchan, (inRange_iff 1 200 _).2 ⟨hlow, hhigh⟩]
  exact congrArg Host.Outcome.next (request_of_passes h hoperands hperform hqueue hstation)

/-- Settles O33: a pulse in flight first, then the latch, and with neither the pulse starts. -/
theorem exerciseResult : Obligations.ExerciseResult := by
  unfold Obligations.ExerciseResult
  intro s e rest r c hpasses hc hlow hhigh
  refine ⟨fun hbusy => ?busy, fun hidle hlatch => ?latched, fun hidle hclear => ?started⟩
  case busy => exact exec_exercise_of_passes hpasses hc hlow hhigh (startExercise_of_busy hbusy c _) rfl rfl
  case latched =>
    exact exec_exercise_of_passes hpasses hc hlow hhigh (startExercise_of_latched hidle hlatch _) rfl rfl
  case started =>
    rw [← Channel.startPulse_of_clear hclear]
    exact exec_exercise_of_passes hpasses hc hlow hhigh (startExercise_of_clear hidle hclear _) rfl rfl

end Sys2Proof.Machine

/-! The tables outside PASS (R147, R163): a WRITE needs PASS, and no other command but DEVICE_RESET stores a word. -/

namespace Sys2Proof.Machine

/-! ### What the blocks do leaves the tables alone -/

@[simp] theorem fallenBack_tables (s : State) : s.fallenBack.tables = s.tables := by
  obtain ⟨-, h⟩ | ⟨-, h⟩ := fallenBack_cases s <;> simp [h]

@[simp] theorem faultClaim_tables (s : State) : s.faultClaim.tables = s.tables := by
  rw [faultClaim_eq]
  split <;> simp

@[simp] theorem peerNotReadyClaim_tables (s : State) : s.peerNotReadyClaim.tables = s.tables := by
  rw [peerNotReadyClaim_eq]
  split <;> simp

@[simp] theorem backupClaim_tables (s : State) : s.backupClaim.tables = s.tables := by
  obtain ⟨-, h⟩ | ⟨-, h⟩ | ⟨-, h⟩ := backupClaim_cases s <;> simp [h]

@[simp] theorem latchClaim_tables (s : State) (c : Chan) : (s.latchClaim c).tables = s.tables := by
  cases c with
  | bk => exact backupClaim_tables s
  | _ => exact faultClaim_tables s

@[simp] theorem raiseLatch_tables (s : State) (c : Chan) : (s.raiseLatch c).tables = s.tables := by
  cases c <;> rfl

theorem assertInput_tables (s : State) (c : Chan) : (s.assertInput c).tables = s.tables := by
  rw [assertInput_eq]
  split
  · rfl
  · show ((s.raiseLatch c).latchClaim c).tables = _
    simp

@[simp] theorem judgeCode_tables (s : State) (w : Wheel) (code : Nat) : (s.judgeCode w code).tables = s.tables := by
  rw [judgeCode_eq]
  split
  · exact faultClaim_tables _
  · rfl

@[simp] theorem demandTakenClaim_tables (s : State) (demand : Nat) :
    (s.demandTakenClaim demand).tables = s.tables := by
  obtain h | ⟨h, -⟩ := demandTakenClaim_cases s demand <;> simp [h]

theorem judgeDemand_tables (s : State) (f : Frame) : (s.judgeDemand f).tables = s.tables := by
  unfold State.judgeDemand
  repeat' split
  all_goals simp [State.takeDemand]

@[simp] theorem rollConditions_tables (s : State) (f : Frame) : (s.rollConditions f).tables = s.tables := by
  unfold State.rollConditions
  dsimp only
  split <;> simp

@[simp] theorem appendSlot_tables (s : State) (f : Frame) : (s.appendSlot f).1.tables = s.tables := by
  unfold State.appendSlot
  dsimp only
  repeat' split
  all_goals rfl

theorem handleRoll_tables (s : State) (f : Frame) : (s.handleRoll f).1.tables = s.tables := by
  unfold State.handleRoll
  split <;> simp

theorem address_tables (s : State) (f : Frame) : (s.address f).1.tables = s.tables := by
  unfold State.address
  dsimp only
  repeat' split
  all_goals rfl

theorem controlPeriod_tables {s t : State} (h : exec .controlPeriodEvent s = .next t) : t.tables = s.tables := by
  by_cases hm : s.mode = .active
  · obtain rfl := Host.Outcome.next.inj ((exec_controlPeriod_active hm).symm.trans h)
    rw [raisePeriod_eq, raisePeriod_eq]
    rfl
  · obtain rfl := Host.Outcome.next.inj h
    rw [if_neg hm]
    rfl

/-! ### What a request does leaves the tables alone, but a WRITE in PASS -/

/-- A take leaves the tables as its handling does (R131). -/
theorem take_tables {s : State} {row : TakeRow} {handle : RxEntry → State → State × List Byte}
    (h : ∀ e, (handle e s).1.tables = s.tables) : (s.take row handle).tables = s.tables := by
  obtain hidle | ⟨e, rest, kind, ending, -, -, -, htake⟩ := take_cases s row handle
  · rw [hidle]
  · rw [htake, State.passOn_tables, h]

theorem judgeRequest_tables {s : State} {k : RequestKind} {perform : State → Request → State × Reply} {r : Request}
    (h : s.checkFailure k r = none → (perform s r).1.tables = s.tables) :
    (s.judgeRequest k perform r).1.tables = s.tables := by
  unfold State.judgeRequest
  split
  · rfl
  · rfl
  · exact h ‹_›

theorem request_tables {s : State} {k : RequestKind} {perform : State → Request → State × Reply}
    (h : ∀ r, s.checkFailure k r = none → (perform s r).1.tables = s.tables) :
    (s.request k perform).tables = s.tables :=
  take_tables fun _ => judgeRequest_tables (h _)

/-- Outside PASS check 4 refuses every WRITE (R147). -/
theorem checkFailure_write_ne_none {s : State} (h : s.mode ≠ .pass) (r : Request) :
    s.checkFailure .write r ≠ none := fun hpasses =>
  h ((modeAllows_iff .write s.mode).1 (checkFailure_eq_none hpasses).2 (.inl rfl))

theorem performArm_tables (s : State) (r : Request) : (s.performArm r).1.tables = s.tables := by
  unfold State.performArm
  split <;> rfl

theorem disarm_tables (s : State) : s.disarm.tables = s.tables := by
  unfold State.disarm
  split
  · rfl
  · split <;> rfl

theorem performAcknowledge_tables (s : State) (r : Request) : (s.performAcknowledge r).1.tables = s.tables := by
  unfold State.performAcknowledge State.acknowledgeKind
  repeat' split
  all_goals rfl

theorem performRearm_tables (s : State) (r : Request) : (s.performRearm r).1.tables = s.tables := by
  unfold State.performRearm State.rearm
  repeat' split
  all_goals rfl

theorem performExercise_tables (s : State) (r : Request) : (s.performExercise r).1.tables = s.tables := by
  unfold State.performExercise State.startExercise
  repeat' split
  all_goals rfl

theorem loopCleared_tables (s : State) : s.loopCleared.tables = s.tables := by
  rw [loopCleared_eq]
  rfl

theorem handleLoopClear_tables (s : State) (f : Frame) : (s.handleLoopClear f).1.tables = s.tables := by
  have hjudged (r : Request) : (s.judgeRequest .loopClear State.performLoopClear r).1.tables = s.tables :=
    judgeRequest_tables fun _ => loopCleared_tables s
  unfold State.handleLoopClear
  dsimp only
  split <;> exact hjudged _

/-! ### Every command -/

/-- The commands of the receiver, the transmitter, the timer, the pins and the valve channels. -/
theorem otherCommand_tables {c : Instr} {s t : State} (htake : takesHead c = false)
    (hreset : ∀ straps inputs, c ≠ .deviceReset straps inputs) (h : exec c s = .next t) : t.tables = s.tables := by
  cases c with
  | deviceReset straps inputs => exact absurd rfl (hreset straps inputs)
  | controlPeriodEvent => exact controlPeriod_tables h
  | sample leftCode rightCode =>
    obtain rfl := Host.Outcome.next.inj h
    rw [judgeCode_tables, judgeCode_tables]
  | expiry =>
    obtain rfl := Host.Outcome.next.inj h
    split
    · exact faultClaim_tables _
    · rfl
  | latchSetEvent channel | faultInputAssertedWhileLatched channel =>
    obtain rfl := Host.Outcome.next.inj h
    exact assertInput_tables s channel
  | frameStart | frameCompletion | overlongCompletion | characterCompletion | receiverIdle | transmitterTake
  | timerStep | pairPeriodEnd | ratioOnTimeEnd | bkPeriodEnd =>
    obtain rfl := Host.Outcome.next.inj h
    repeat' split
    all_goals rfl
  | frameSent | toothEdge | faultInputDeasserted | pullInStep | pullInCompletion | pulseStep | pulseCompletion
  | phaseCount =>
    obtain rfl := Host.Outcome.next.inj h
    rfl
  | _ => exact nomatch htake

/-- Settles O50: a WRITE fails check 4, and every other take handles its frame without a word stored. -/
theorem tablesFixedOutsidePass : Obligations.TablesFixedOutsidePass := by
  unfold Obligations.TablesFixedOutsidePass
  intro c s t hreset hmode h
  cases c with
  | damagedFrameForward | forwardUnchanged =>
    obtain rfl := Host.Outcome.next.inj h
    exact take_tables fun _ => rfl
  | demandFrame =>
    obtain rfl := Host.Outcome.next.inj h
    exact take_tables fun _ => judgeDemand_tables s _
  | rollFrame =>
    obtain rfl := Host.Outcome.next.inj h
    exact take_tables fun _ => handleRoll_tables s _
  | manageAddressing =>
    obtain rfl := Host.Outcome.next.inj h
    exact take_tables fun _ => address_tables s _
  | read =>
    obtain rfl := Host.Outcome.next.inj h
    exact request_tables fun _ _ => rfl
  | write =>
    obtain rfl := Host.Outcome.next.inj h
    exact request_tables fun r hpasses => absurd hpasses (checkFailure_write_ne_none hmode r)
  | arm =>
    obtain rfl := Host.Outcome.next.inj h
    exact request_tables fun r _ => performArm_tables s r
  | disarm =>
    obtain rfl := Host.Outcome.next.inj h
    exact request_tables fun _ _ => disarm_tables s
  | acknowledge =>
    obtain rfl := Host.Outcome.next.inj h
    exact request_tables fun r _ => performAcknowledge_tables s r
  | rearmChannel =>
    obtain rfl := Host.Outcome.next.inj h
    exact request_tables fun r _ => performRearm_tables s r
  | exercise =>
    obtain rfl := Host.Outcome.next.inj h
    exact request_tables fun r _ => performExercise_tables s r
  | loopClear =>
    obtain rfl := Host.Outcome.next.inj h
    exact take_tables fun _ => handleLoopClear_tables s _
  | _ => exact otherCommand_tables rfl hreset h

end Sys2Proof.Machine

/-! Arming (chapter 10): the values after device reset (R161, R187), the tables in service over every step (R163,
R170), each check of ARM in the words of R165 to R169, and the answer to an ARM (R164, R170). -/

namespace Sys2Proof.Machine

/-! ### Device reset and the tables in service -/

theorem reset_words_eq (name : TableName) :
    Tables.reset.words name = List.replicate (Page.table name).length 0 := by
  cases name with
  | curve c => simp [Tables.words, Tables.reset, Page.length]
  | _ => rfl

/-- Settles O3: the words and the service states by the tables, the rest wheel by wheel and channel by channel. -/
theorem resetValues : Obligations.ResetValues := by
  unfold Obligations.ResetValues
  refine ⟨rfl, rfl, fun name w hw => ?words, servicesReset_of, rfl, rfl, rfl, rfl, rfl, rfl, rfl, rfl, rfl, rfl, rfl,
    rfl, rfl, fun w => ?wheels, rfl, rfl, rfl, fun c => ?channels⟩
  case words => exact List.eq_of_mem_replicate (reset_words_eq name ▸ hw)
  case wheels => cases w <;> exact ⟨rfl, rfl, rfl, rfl⟩
  case channels => cases c <;> exact ⟨rfl, rfl, rfl, rfl, rfl, rfl, rfl⟩

/-- Settles O57: a step is a run of effects, and every effect keeps the part. -/
theorem stepKeepsTablesSound : Obligations.StepKeepsTablesSound := by
  unfold Obligations.StepKeepsTablesSound
  intro s t hs h
  exact step_keeps (fun _ _ h => h) (fun _ _ heffect => heffect.tablesSound) hs h

/-! ### The station and a clash (A1 and A2, R165) -/

theorem stationValid_iff (station : Nat) : stationValid station = true ↔ 1 ≤ station ∧ station ≤ 6 :=
  inRange_iff 1 6 station

theorem checkA1_eq (s : State) : s.checkA1 = if 1 ≤ s.station ∧ s.station ≤ 6 then none else some 0 :=
  if_congr (stationValid_iff s.station) rfl rfl

theorem checkA2_eq (s : State) :
    s.checkA2 = if ∃ entry ∈ s.attention, entry.kind = .stationClash then some 0 else none :=
  if_congr (entryOf_isSome_iff _ _) rfl rfl

/-! ### The Axle Record and the Admission Map (A3 and A4, R166, R167) -/

theorem checkA3_of_not_loaded {s : State} (h : s.services.axle ≠ .loaded) : s.checkA3 = some 255 := if_pos h

theorem checkA3_of_loaded {s : State} (h : s.services.axle = .loaded) :
    s.checkA3 = (List.range 18).find? fun i => !axleFieldValid s.tables i := if_neg (not_not_intro h)

theorem axleField_passes (t : Tables) (i : Nat) (hi : i < 18) :
    (!axleFieldValid t i) = false ↔ WordInRange (axleRanges t) t.axle.toList i := by
  rw [Bool.not_eq_false', axleFieldValid_iff t hi]

theorem checkA3_of_first {s : State} {i : Nat} (h : s.services.axle = .loaded)
    (hi : FirstFailure 18 (WordInRange (axleRanges s.tables) s.tables.axle.toList) i) : s.checkA3 = some i := by
  rw [checkA3_of_loaded h, find_range_of_first (axleField_passes s.tables) hi]

theorem checkA3_of_all {s : State} (h : s.services.axle = .loaded)
    (hall : ∀ i, i < 18 → WordInRange (axleRanges s.tables) s.tables.axle.toList i) : s.checkA3 = none := by
  rw [checkA3_of_loaded h, find_range_of_all (axleField_passes s.tables) hall]

theorem checkA4_eq (s : State) : s.checkA4 = if s.services.map ≠ .loaded then some 255
    else if ∃ a ∈ s.tables.map.toList, a.demand = true then none else some 16 :=
  if_congr Iff.rfl rfl (if_congr List.any_eq_true rfl rfl)

/-! ### The Slip Table (A5, R167) -/

theorem checkA5_of_not_loaded {s : State} (h : s.services.slip ≠ .loaded) : s.checkA5 = some 255 := if_pos h

theorem slipField_passes (t : Tables) (i : Nat) (hi : i < 8) :
    (!slipFieldValid t i) = false ↔ WordInRange slipRanges t.slip.toList i := by
  rw [Bool.not_eq_false', slipFieldValid_iff t hi]

/-- A5 on a LOADED Slip Table by the search over its fields: the order of the thresholds where no field fails. -/
theorem checkA5_of_loaded {s : State} {found : Option Nat} (h : s.services.slip = .loaded)
    (hfound : ((List.range 8).find? fun i => !slipFieldValid s.tables i) = found) :
    s.checkA5 = found.or
      (if s.tables.slip[1].toNat ≤ s.tables.slip[0].toNat then some 1
        else if s.tables.slip[0].toNat ≤ s.tables.slip[2].toNat then some 2
        else none) := by
  rw [State.checkA5, if_neg (not_not_intro h), show [0, 1, 2, 3, 4, 5, 6, 7] = List.range 8 from rfl, hfound]
  cases found <;> rfl

theorem checkA5_of_first {s : State} {i : Nat} (h : s.services.slip = .loaded)
    (hi : FirstFailure 8 (WordInRange slipRanges s.tables.slip.toList) i) : s.checkA5 = some i :=
  checkA5_of_loaded h (find_range_of_first (slipField_passes s.tables) hi)

theorem checkA5_of_all {s : State} (h : s.services.slip = .loaded)
    (hall : ∀ i, i < 8 → WordInRange slipRanges s.tables.slip.toList i) : s.checkA5 =
      if s.tables.slip[1].toNat ≤ s.tables.slip[0].toNat then some 1
      else if s.tables.slip[0].toNat ≤ s.tables.slip[2].toNat then some 2
      else none :=
  checkA5_of_loaded h (find_range_of_all (slipField_passes s.tables) hall)

/-! ### The bands and the curves they name (A6 and A7, R168) -/

theorem checkA6_of_not_loaded {s : State} (h : s.services.load ≠ .loaded) : s.checkA6 = some 255 := if_pos h

theorem checkA6_of_loaded {s : State} (h : s.services.load = .loaded) : s.checkA6 =
    (List.range 8).find? fun band => !loadEntryValid s.services (loadEntry s.tables band) := if_neg (not_not_intro h)

theorem band_passes (s : State) (band : Nat) :
    (!loadEntryValid s.services (loadEntry s.tables band)) = false ↔ s.BandFits band := by
  rw [Bool.not_eq_false', bandFits_iff]

theorem checkA6_of_first {s : State} {band : Nat} (h : s.services.load = .loaded)
    (hband : FirstFailure 8 s.BandFits band) : s.checkA6 = some band := by
  rw [checkA6_of_loaded h, find_range_of_first (fun j _ => band_passes s j) hband]

theorem checkA6_of_all {s : State} (h : s.services.load = .loaded) (hall : ∀ band, band < 8 → s.BandFits band) :
    s.checkA6 = none := by
  rw [checkA6_of_loaded h, find_range_of_all (fun j _ => band_passes s j) hall]

theorem checkA7_of_curveFaults {s : State}
    (h : ∀ c : Fin 4, curveReferenced s.tables c = true → curveFault s.tables.curves[c] = none) :
    s.checkA7 = none := by
  rw [checkA7_eq, List.findSome?_eq_none_iff]
  intro c _
  split
  · rw [h c ‹_›]; rfl
  · rfl

/-! ### The channels (A8 and A9, R169) -/

/-- The channels before one in channel order are those with lower numbers (R1). -/
theorem allChannels_split (c : Chan) :
    ∃ before after, allChannels = before ++ c :: after ∧ ∀ d ∈ before, chanNumber d < chanNumber c := by
  cases c with
  | bk => exact ⟨[], _, rfl, by decide⟩
  | li => exact ⟨[.bk], _, rfl, by decide⟩
  | lx => exact ⟨[.bk, .li], _, rfl, by decide⟩
  | ri => exact ⟨[.bk, .li, .lx], _, rfl, by decide⟩
  | rx => exact ⟨[.bk, .li, .lx, .ri], _, rfl, by decide⟩

theorem find_allChannels_of_lowest {p : Chan → Bool} {c : Chan} (hc : p c = true)
    (hlow : ∀ d, chanNumber d < chanNumber c → ¬p d = true) : allChannels.find? p = some c := by
  obtain ⟨before, after, hsplit, hbefore⟩ := allChannels_split c
  exact List.find?_eq_some_iff_append.2
    ⟨hc, before, after, hsplit, fun d hd => by simpa using hlow d (hbefore d hd)⟩

theorem find_allChannels_of_none {p : Chan → Bool} (h : ∀ c, ¬p c = true) : allChannels.find? p = none :=
  List.find?_eq_none.2 fun c _ => h c

theorem pulsing_iff (s : State) (c : Chan) : s.pulsing c = true ↔ (s.channels.get c).mode = .pulse :=
  decide_eq_true_iff

theorem checkA8_of_lowest {s : State} {c : Chan} (hc : (s.channels.get c).mode = .pulse)
    (hlow : ∀ d, chanNumber d < chanNumber c → (s.channels.get d).mode ≠ .pulse) :
    s.checkA8 = some (chanNumber c) := by
  rw [State.checkA8, find_allChannels_of_lowest ((pulsing_iff s c).2 hc)
    fun d hd => (pulsing_iff s d).not.2 (hlow d hd)]
  rfl

theorem checkA8_of_none {s : State} (h : ∀ c, (s.channels.get c).mode ≠ .pulse) : s.checkA8 = none := by
  rw [State.checkA8, find_allChannels_of_none fun c => (pulsing_iff s c).not.2 (h c)]
  rfl

theorem checkA9_of_lowest {s : State} {c : Chan} (hc : (s.channels.get c).latch = true)
    (hlow : ∀ d, chanNumber d < chanNumber c → ¬(s.channels.get d).latch = true) :
    s.checkA9 = some (chanNumber c) := by
  rw [State.checkA9, find_allChannels_of_lowest hc hlow]
  rfl

theorem checkA9_of_none {s : State} (h : ∀ c, ¬(s.channels.get c).latch = true) : s.checkA9 = none := by
  rw [State.checkA9, find_allChannels_of_none h]
  rfl

theorem checkA10_of_none {s : State} (h : ∀ w, (s.sense.get w).isFault = false) : s.checkA10 = none := by
  have hleft : s.sense.left.isFault = false := h .left
  have hright : s.sense.right.isFault = false := h .right
  simp [State.checkA10, hleft, hright]

/-! ### The answer to an ARM (R164, R170) -/

/-- An ARM that passes its checks 1 to 4 is answered by what A1 to A10 decide. -/
theorem exec_arm_of_passes {s t : State} {e : RxEntry} {rest : List RxEntry} {r : Request} {reply : Reply}
    (h : s.Passes .arm e rest r) (hperform : s.performArm r = (t, reply))
    (hqueue : t.receiveQueue = s.receiveQueue) (hstation : t.station = s.station) :
    exec .arm s = .next (t.replyWith e rest r reply) :=
  congrArg Host.Outcome.next (request_of_passes h rfl hperform hqueue hstation)

theorem performArm_of_failure {s : State} {detail : Nat} (h : s.armFailure = some detail) (r : Request) :
    s.performArm r = (s, { status := .checkFailed, detail := detail, words := [] }) := by
  rw [State.performArm, h]

theorem performArm_of_pass {s : State} (h : s.armFailure = none) (r : Request) :
    s.performArm r = (s.armed, Reply.plain .done) := by
  rw [State.performArm, h]

/-- Settles O29: a refused ARM by what it performs, the order by the first of a list that fails, and each check by its
lemmas above. -/
theorem armRefusedResult : Obligations.ArmRefusedResult := by
  unfold Obligations.ArmRefusedResult
  refine ⟨fun s e rest r detail hpasses hfail => ?refused, fun s => ⟨fun n index => ?first, ?none⟩, fun s => ?checks⟩
  case refused => exact exec_arm_of_passes hpasses (performArm_of_failure hfail r) rfl rfl
  case first => exact firstFailed_of_first _ 1 n index
  case none => exact firstFailed_of_all _ 1
  case checks =>
    exact ⟨checkA1_eq s, checkA2_eq s, checkA3_of_not_loaded,
      fun h => ⟨fun _ => checkA3_of_first h, checkA3_of_all h⟩, checkA4_eq s, checkA5_of_not_loaded,
      fun h => ⟨fun _ => checkA5_of_first h, checkA5_of_all h⟩, checkA6_of_not_loaded,
      fun h => ⟨fun _ => checkA6_of_first h, checkA6_of_all h⟩, fun _ _ => checkA7_of_first, checkA7_of_all,
      fun _ => checkA8_of_lowest, checkA8_of_none, fun _ => checkA9_of_lowest, checkA9_of_none, rfl⟩

/-- Tables that fit, all of them LOADED, pass A3 to A7 (R166 to R168). -/
theorem tableChecks_of_fit {s : State} (haxle : s.services.axle = .loaded) (hmap : s.services.map = .loaded)
    (hload : s.services.load = .loaded) (hslip : s.services.slip = .loaded)
    (hcurves : ∀ c : Fin 4, curveReferenced s.tables c = true → s.services.curves[c] = .loaded)
    (hfit : TablesFit s.tables) :
    s.checkA3 = none ∧ s.checkA4 = none ∧ s.checkA5 = none ∧ s.checkA6 = none ∧ s.checkA7 = none := by
  obtain ⟨hfields, hslipFields, hdump, hhold, hsource, hentries, hshapes⟩ := hfit
  refine ⟨checkA3_of_all haxle fun i hi => (axleFieldValid_iff _ hi).1 (hfields i hi), ?source, ?slip,
    checkA6_of_all hload fun band _ => ?band, checkA7_of_curveFaults hshapes⟩
  case source => rw [checkA4_eq, if_neg (not_not_intro hmap), if_pos hsource]
  case slip =>
    rw [checkA5_of_all hslip fun i hi => (slipFieldValid_iff _ hi).1 (hslipFields i hi)]
    exact (if_neg (Nat.not_le.2 hdump)).trans (if_neg (Nat.not_le.2 hhold))
  case band =>
    have hmem := loadEntry_mem s.tables band
    obtain ⟨hcurve, hfactor⟩ := hentries _ hmem
    exact ⟨hfactor, ⟨_, hcurve⟩, rfl, hcurves ⟨_, hcurve⟩ ((curveReferenced_iff _ _).2 ⟨_, hmem, rfl⟩)⟩

/-- ARM keeps the service state of a curve that no band names (R163). -/
theorem servicesAfterArm_curves (t : Tables) (v : Services) (c : Fin 4) :
    (servicesAfterArm t v).curves[c] = if curveReferenced t c then .inService else v.curves[c] := by
  match c with
  | 0 | 1 | 2 | 3 => rfl

/-- Settles O28: with nothing to refuse all ten checks pass, and ARM performs its acts. -/
theorem armResult : Obligations.ArmResult := by
  unfold Obligations.ArmResult
  intro s e rest r hpasses hclash haxle hmap hload hslip hcurves hfit hchannels hsense
  obtain ⟨⟨-, hstation, -⟩, -⟩ := id hpasses
  have h1 : s.checkA1 = none := if_pos hstation
  have h2 : s.checkA2 = none := by rw [State.checkA2, hclash]; rfl
  obtain ⟨h3, h4, h5, h6, h7⟩ := tableChecks_of_fit haxle hmap hload hslip hcurves hfit
  have h8 : s.checkA8 = none := checkA8_of_none fun c => (hchannels c).1
  have h9 : s.checkA9 = none := checkA9_of_none fun c => by simp [(hchannels c).2]
  have h10 : s.checkA10 = none := checkA10_of_none hsense
  have hpass : s.armFailure = none := by
    rw [armFailure_eq, h1, h2, h3, h4, h5, h6, h7, h8, h9, h10]
    rfl
  exact ⟨servicesAfterArm s.tables s.services, exec_arm_of_passes hpasses (performArm_of_pass hpass r) rfl rfl, rfl,
    rfl, rfl, rfl, servicesAfterArm_curves _ _⟩

end Sys2Proof.Machine

/-! The step (R37, R131, R159): a command always completes, and the queue of the commands that wait is its sender's
alone (logs 3, 12, 13, 17). -/

namespace Sys2Proof.Machine

/-! ### The queue of commands -/

theorem BlockChange.pending {s t : State} (h : BlockChange s t) : t.pending = s.pending := by
  cases h <;> rfl

theorem QueueChange.pending {s t : State} (h : QueueChange s t) : t.pending = s.pending := by
  cases h <;> rfl

theorem Effect.pending {s t : State} (h : Effect s t) : t.pending = s.pending := by
  cases h with
  | block _ change => exact change.pending
  | queue _ change => exact change.pending
  | reset => rfl

theorem Effects.pending {s t : State} (h : Effects s t) : t.pending = s.pending := by
  induction h with
  | refl => rfl
  | tail _ heffect ih => exact heffect.pending.trans ih

/-! ### The step and the command at the front -/

theorem step_of_pending_cons {s : State} {c : Instr} {rest : List Instr} (h : s.pending = c :: rest) :
    step s = exec c { s with pending := rest } := by
  rw [step, h]

theorem step_of_pending_nil {s : State} (h : s.pending = []) : step s = .next s := by
  rw [step, h]

/-- Every command's meaning ends in a next state (log 17). -/
theorem exec_completes (c : Instr) (s : State) : ∃ t, exec c s = .next t := by
  cases c <;> exact ⟨_, rfl⟩

/-- Settles O1: by the two forms of the queue. -/
theorem stepTakesFront : Obligations.StepTakesFront := by
  unfold Obligations.StepTakesFront
  exact ⟨fun _ _ => step_of_pending_cons rfl, fun _ => step_of_pending_nil⟩

/-- Settles O2: every command completes, and as a run of effects, none of which touches the queue of commands. -/
theorem commandsNeverStop : Obligations.CommandsNeverStop := by
  unfold Obligations.CommandsNeverStop
  intro c s
  obtain ⟨t, h⟩ := exec_completes c s
  exact ⟨t, h, (exec_effects h).pending⟩

end Sys2Proof.Machine

/-! Device reset (R74, R138, R187): the latches of the asserted inputs and the attention list that their raises
leave. -/

namespace Sys2Proof.Machine

@[simp] theorem raiseAsserted_channels (s : State) (inputs : PerChan Bool) (c : Chan) :
    (s.raiseAsserted inputs c).channels = s.channels := by
  unfold State.raiseAsserted
  cases c <;> split <;> rfl

/-- Where the latches that are set are those of the asserted inputs, the raises of device reset are those of a review
of the latches (R74, R75). -/
theorem raiseAsserted_eq_reviewLatch {s : State} {inputs : PerChan Bool} {c : Chan}
    (h : (s.channels.get c).latch = inputs.get c) : s.raiseAsserted inputs c = s.reviewLatch c := by
  rw [State.raiseAsserted, State.reviewLatch, h]

@[simp] theorem powered_latch (s : State) (straps : Nat) (inputs : PerChan Bool) (c : Chan) :
    ((s.powered straps inputs).channels.get c).latch = inputs.get c := by
  simp [State.powered]

theorem powered_latches (s : State) (straps : Nat) (inputs : PerChan Bool) :
    (s.powered straps inputs).channels.map Channel.latch = inputs := rfl

/-- The raises of device reset, in channel order, leave an entry for each kind of latch that is set (R74, R178). -/
theorem raiseAsserted_powered_eq (s : State) (straps : Nat) (inputs : PerChan Bool) :
    (((((s.powered straps inputs).raiseAsserted inputs .bk).raiseAsserted inputs .li).raiseAsserted inputs
        .lx).raiseAsserted inputs .ri).raiseAsserted inputs .rx =
      { s.powered straps inputs with attention := latchEntries inputs } := by
  rw [raiseAsserted_eq_reviewLatch (c := .rx) (by simp), raiseAsserted_eq_reviewLatch (c := .ri) (by simp),
    raiseAsserted_eq_reviewLatch (c := .lx) (by simp), raiseAsserted_eq_reviewLatch (c := .li) (by simp),
    raiseAsserted_eq_reviewLatch (c := .bk) (by simp), reviewLatches_eq rfl rfl, powered_latches]

/-- Settles O4: device reset is the powered state with the raises of its asserted inputs, whose list is known. -/
theorem deviceResetResult : Obligations.DeviceResetResult := by
  unfold Obligations.DeviceResetResult
  intro straps inputs s
  show Host.Outcome.next { State.afterReset straps inputs with pending := s.pending } = _
  rw [afterReset_eq, raiseAsserted_powered_eq]
  rfl

end Sys2Proof.Machine

/-! The attention list (R173 to R175): what a raise does to the entry of its kind and to the others, and what every
step keeps of the list. -/

namespace Sys2Proof.Machine

/-! ### The entry of a kind -/

theorem entryOf_cons (k : AttentionKind) (e : AttentionEntry) (l : List AttentionEntry) :
    entryOf k (e :: l) = if e.kind = k then some e else entryOf k l := by
  unfold entryOf
  rw [List.find?_cons]
  by_cases h : e.kind = k <;> simp [h]

/-- In a list in priority order no entry of kind `k` stands after one that is of kind `k` or of lower priority. -/
theorem entryOf_eq_none_of_lt {k : AttentionKind} {e : AttentionEntry} {l : List AttentionEntry}
    (hsorted : ((e :: l).map fun e => e.kind.code).Pairwise (· < ·)) (h : k.code ≤ e.kind.code) :
    entryOf k l = none := by
  rw [List.map_cons, List.pairwise_cons] at hsorted
  obtain ⟨hafter, -⟩ := hsorted
  refine List.find?_eq_none.2 fun x hx hk => ?_
  have hlt := hafter x.kind.code (List.mem_map_of_mem hx)
  rw [of_decide_eq_true hk] at hlt
  omega

/-! ### A raise (R174, R175) -/

/-- A raise of a kind without an entry makes it. -/
theorem entryOf_raiseIn_of_none {k : AttentionKind} {l : List AttentionEntry} (h : entryOf k l = none)
    (detail : Nat) (seen : Option Byte) : entryOf k (raiseIn k detail seen l) =
      some { kind := k, detail := detail, repeats := 1, firstSeen := seen } := by
  induction l with
  | nil => rw [raiseIn, entryOf_cons, if_pos rfl]
  | cons e l ih =>
    have hne : e.kind ≠ k := fun heq => by simp [entryOf_cons, heq] at h
    rw [entryOf_cons, if_neg hne] at h
    rw [raiseIn, if_neg hne]
    split
    · rw [entryOf_cons, if_neg hne, ih h]
    · rw [entryOf_cons, if_pos rfl]

/-- A raise of a kind with an entry counts that entry: the order brings the raise to it. -/
theorem entryOf_raiseIn_of_some {k : AttentionKind} {old : AttentionEntry} {l : List AttentionEntry}
    (hsorted : (l.map fun e => e.kind.code).Pairwise (· < ·)) (h : entryOf k l = some old) (detail : Nat)
    (seen : Option Byte) : entryOf k (raiseIn k detail seen l) = some (old.again detail) := by
  induction l with
  | nil => cases h
  | cons e l ih =>
    rw [raiseIn]
    by_cases hk : e.kind = k
    · rw [entryOf_cons, if_pos hk] at h
      obtain rfl := Option.some.inj h
      rw [if_pos hk, entryOf_cons, if_pos (by simpa using hk)]
    · rw [entryOf_cons, if_neg hk] at h
      have hlt : e.kind.code < k.code := by
        by_contra hge
        rw [entryOf_eq_none_of_lt hsorted (Nat.le_of_not_lt hge)] at h
        cases h
      rw [if_neg hk, if_pos hlt, entryOf_cons, if_neg hk]
      exact ih (List.pairwise_cons.1 hsorted).2 h

/-- A raise leaves the entries of the other kinds. -/
theorem entryOf_raiseIn_of_ne {k k' : AttentionKind} (hne : k' ≠ k) (detail : Nat) (seen : Option Byte)
    (l : List AttentionEntry) : entryOf k' (raiseIn k detail seen l) = entryOf k' l := by
  induction l with
  | nil => rw [raiseIn, entryOf_cons, if_neg (Ne.symm hne)]
  | cons e l ih =>
    rw [raiseIn]
    by_cases hk : e.kind = k
    · have hother : e.kind ≠ k' := fun h => hne (h.symm.trans hk)
      rw [if_pos hk, entryOf_cons, entryOf_cons, if_neg (by simpa using hother), if_neg hother]
    · rw [if_neg hk]
      split
      · rw [entryOf_cons, entryOf_cons, ih]
      · rw [entryOf_cons, if_neg (Ne.symm hne)]

theorem AttentionEntry.again_eq {e : AttentionEntry} (h : e.repeats ≤ 255) (detail : Nat) :
    e.again detail = { e with detail := detail, repeats := min 255 (e.repeats + 1) } := by
  rw [← AttentionEntry.again_repeats h detail]
  rfl

/-- Settles O5: the entry of the kind by whether it is there, and the repeat count by its range. -/
theorem raiseMakesOrCounts : Obligations.RaiseMakesOrCounts := by
  unfold Obligations.RaiseMakesOrCounts
  intro s k detail ⟨horder, hentries⟩
  refine ⟨?own, fun _ hne => entryOf_raiseIn_of_ne hne _ _ _, raiseIn_pairwise k detail _ horder, rfl⟩
  case own =>
    rw [State.raise_attention]
    cases hold : entryOf k s.attention with
    | none => exact entryOf_raiseIn_of_none hold _ _
    | some old =>
      obtain ⟨-, hhigh, -⟩ := hentries old (List.mem_of_find?_eq_some hold)
      rw [entryOf_raiseIn_of_some horder hold, AttentionEntry.again_eq hhigh]

/-! ### Every step (R173, R174) -/

/-- Settles O52: every effect keeps the list sound. -/
theorem stepKeepsAttentionSound : Obligations.StepKeepsAttentionSound := by
  unfold Obligations.StepKeepsAttentionSound
  intro s t hs h
  exact step_keeps (fun _ _ h => h) (fun _ _ heffect => heffect.attentionSound) hs h

end Sys2Proof.Machine

/-! The formats (R180, R182, R184, R185): what is written reads back. -/

namespace Sys2Proof.Machine

theorem wordsOfBytes_bytesOfWords (ws : List Word) : wordsOfBytes (bytesOfWords ws) = ws := by
  induction ws with
  | nil => rfl
  | cons w ws ih => rw [bytesOfWords, wordsOfBytes, wordOf_highByte_lowByte, ih]

/-- An Admission Map entry has sixteen values (9.6). -/
theorem AdmissionEntry.ofWord_word (a : AdmissionEntry) : AdmissionEntry.ofWord a.word = a := by
  have hall : ∀ (demand manage : Bool) (ceiling : BitVec 2),
      AdmissionEntry.ofWord (AdmissionEntry.word ⟨demand, manage, ceiling⟩) = ⟨demand, manage, ceiling⟩ := by
    decide
  exact hall _ _ _

/-- The three fields of a Load Table word stand side by side in its low 14 bits (R185). -/
theorem LoadEntry.toNat_word (l : LoadEntry) :
    l.word.toNat = l.curve.toNat + 16 * l.factor.toNat + 4096 * l.shift.toNat := by
  have hcurve := l.curve.isLt
  have hfactor := l.factor.isLt
  have hshift := l.shift.isLt
  exact (BitVec.toNat_ofNat _ _).trans (Nat.mod_eq_of_lt (by omega))

theorem LoadEntry.ofWord_word (l : LoadEntry) : LoadEntry.ofWord l.word = l := by
  have hword := l.toNat_word
  obtain ⟨curve, factor, shift⟩ := l
  simp only [LoadEntry.ofWord, LoadEntry.mk.injEq, ← BitVec.toNat_inj, BitVec.extractLsb'_toNat,
    Nat.shiftRight_eq_div_pow, hword]
  omega

theorem RequestKind.ofCode_code (k : RequestKind) : RequestKind.ofCode k.code = some k := by cases k <;> rfl

/-- Settles O14: each format by the lemma that reads it back. -/
theorem formatsAgree : Obligations.FormatsAgree := by
  unfold Obligations.FormatsAgree
  exact ⟨Frame.ofContent_content, fun _ => Frame.content_ofContent, wordsOfBytes_bytesOfWords,
    wordOf_highByte_lowByte, AdmissionEntry.ofWord_word, LoadEntry.ofWord_word,
    fun w => ⟨AdmissionEntry.word_ofWord w, LoadEntry.word_ofWord w⟩, AttentionKind.ofCode_code,
    RequestKind.ofCode_code, chanOfNumber_chanNumber⟩

end Sys2Proof.Machine
